-- ==== Sys2Proof/Word.lean ====
section
/-! DEFINITION. The two word types of the core (00_scope.md R8) and their plainest views. -/

namespace Sys2Proof

/-- "a Byte is 8-bit unsigned" (R8). -/
abbrev Byte := BitVec 8

/-- "an Address is 16-bit unsigned" (R8). -/
abbrev Address := BitVec 16

end Sys2Proof
end

