-- ==== Sys2Proof/Config.lean ====
section
/-! DEFINITION. The parameters of 00_scope.md R9 that are fixed by the spec. `LOAD_ADDR` is open and is an argument of
`Sys2Proof.Machine.boot`; a restriction of `ADMITTED` is an argument of `Sys2Proof.Machine.stepRestricted`.
There is no free value: "No behaviour of this core is `any value`" (93_implementation_defined.md section 1). -/

namespace Sys2Proof.Config

/-- `MEM_SIZE` (R9): the number of byte cells. -/
def memSize : Nat := 65536

/-- `RESET_VECTOR` (R9, 92 D9): the address of the reset vector's low byte; the high byte follows it.
PRESUMED by the spec from the historical processor, unsafe (A10). -/
def resetVector : Address := 0xFFFC

/-- `ZP_POINTER_WRAP` (R9, 92 D6): the high byte of a zero-page pointer at p is read at (p + 1) mod 256.
PRESUMED by the spec from the historical processor, unsafe (A9). -/
def zpPointerWrap : Bool := true

end Sys2Proof.Config
end

