-- ==== Sys2Proof/Machine/State.lean ====
section
/-! DEFINITION. The architectural state "(PC, SP, A, X, Y, P, state, M)" (10_state.md R40), as plain data, and the state of a
new core (70_reset_and_hazards.md R252). -/

namespace Sys2Proof.Machine

/-- The status-flag register P (R27), one Boolean a flag (R11); `Flags.toByte` is its byte. -/
structure Flags where
  /-- Carry, bit 0 (R28). -/
  c : Bool
  /-- Zero, bit 1 (R29). -/
  z : Bool
  /-- Interrupt-disable, bit 2 (R32): no instruction reads or writes it. -/
  i : Bool
  /-- Decimal, bit 3 (R33): no instruction reads or writes it. -/
  d : Bool
  /-- Break, bit 4 (R34): no instruction reads or writes it. -/
  b : Bool
  /-- The unused bit 5 (R34): no instruction reads or writes it. -/
  u : Bool
  /-- Overflow, bit 6 (R31). -/
  v : Bool
  /-- Negative, bit 7 (R30). -/
  n : Bool
  deriving DecidableEq, Repr

/-- P = 0x00: all flags clear (R250, R251). -/
def Flags.clear : Flags :=
  { c := false, z := false, i := false, d := false, b := false, u := false, v := false, n := false }

/-- The reasons a step can end the run in (R36, R220). -/
inductive FaultReason where
  /-- The opcode byte is one of the 105 illegal bytes (R223). -/
  | invalidInstruction
  /-- The opcode byte is one of the 96 unimplemented bytes (R221). -/
  | unimplemented
  deriving DecidableEq, Repr

/-- The run state (R36, R110): `halted` and `faulted` are terminal. -/
inductive RunState where
  | running
  | halted
  | faulted (reason : FaultReason)
  deriving DecidableEq, Repr

/-- The core's run-ending faults are states of the machine (`RunState.faulted`, A1), so no step answers a fault. The one fault
of this type is the loader's. -/
inductive Fault where
  /-- Raised by the host's `bulkCopy` alone, when the image would pass 0xFFFF (R58, R222); the core's state is unchanged.
  Safe: the spec names it. -/
  | outOfBounds
  deriving DecidableEq, Repr

/-- Reasons for a step to have no meaning. No meaning of this model answers one. -/
inductive Refusal where
  /-- Raised by an arm of `exec` whose instruction has no meaning yet; there is none. Safe: the machine stops. -/
  | notModelled (mnemonic : String)
  deriving DecidableEq, Repr

/-- The 65536 byte cells (R39, R50) as the list of the cells that do not hold 0, addresses rising: what an unlisted address
reads as is 0, for memory is "zero-initialized" (R57). -/
abbrev Memory := List Host.Cell

/-- What an unlisted address reads as: "pre-zeroed at creation" (R50, R57). -/
def memoryDefault : Byte := 0

/-- The canonical form: addresses strictly rising and inside the space, no cell equal to what an unlisted one reads as. -/
abbrev Memory.wf (m : Memory) : Prop :=
  m.Pairwise (fun c c' => c.1 < c'.1) ∧ ∀ c ∈ m, c.1 < Config.memSize ∧ c.2 ≠ memoryDefault

/-- The state of the machine (R40). -/
@[ext]
structure State where
  /-- The program counter (R25). -/
  pc : Address
  /-- The stack pointer, which no instruction reads or writes (R24). -/
  sp : Byte
  /-- The accumulator (R21). -/
  a : Byte
  /-- The index register X (R22). -/
  x : Byte
  /-- The index register Y (R23). -/
  y : Byte
  /-- The status flags (R27). -/
  p : Flags
  /-- The run state (R36). -/
  runState : RunState
  /-- Memory (R39). -/
  mem : Memory
  deriving DecidableEq, Repr

/-- The state of a new core (R252): zeroed memory, and what reset leaves on it: PC = 0x0000, the vector of zeroed memory,
registers and P zero, Running. -/
def State.reset : State :=
  { pc := 0, sp := 0, a := 0, x := 0, y := 0, p := Flags.clear, runState := .running, mem := [] }

end Sys2Proof.Machine
end

