-- ==== Sys2Proof/Syntax.lean ====
section
/-! DEFINITION. The instructions: one constructor of `Instr` for each row of spec/opcode_table.json, that is for each of the
256 opcode bytes (30_encoding.md R80), with the operand the row's mode carries (R81, R82). `Instr.operation` says which tagged
operation a row stands for (R118), and from it come its mode, its length and its class (R80). -/

namespace Sys2Proof

/-- The addressing modes: the eleven of the source and the three of decision D5 (R82). -/
inductive Mode where
  | implied | accumulator | immediate
  | zeroPage | zeroPageX | zeroPageY
  | absolute | absoluteX | absoluteY
  | indirect | indirectX | indirectY
  | relative
  deriving DecidableEq, Repr

/-- "Each mode carries a fixed operand byte length (0, 1, or 2)" (R82). -/
def Mode.operandLength : Mode → Nat
  | .implied => 0
  | .accumulator => 0
  | .immediate => 1
  | .zeroPage => 1
  | .zeroPageX => 1
  | .zeroPageY => 1
  | .absolute => 2
  | .absoluteX => 2
  | .absoluteY => 2
  | .indirect => 2
  | .indirectX => 1
  | .indirectY => 1
  | .relative => 1

/-- An operand in memory: the mode and the operand bytes it carries (R82). No admitted opcode uses `indirect` (R128). -/
inductive MemOperand where
  | zeroPage (addr : Byte)
  | zeroPageX (addr : Byte)
  | zeroPageY (addr : Byte)
  | absolute (addr : Address)
  | absoluteX (addr : Address)
  | absoluteY (addr : Address)
  | indirect (ptr : Address)
  | indirectX (ptr : Byte)
  | indirectY (ptr : Byte)
  deriving DecidableEq, Repr

/-- The mode of a memory operand. -/
def MemOperand.mode : MemOperand → Mode
  | .zeroPage _ => .zeroPage
  | .zeroPageX _ => .zeroPageX
  | .zeroPageY _ => .zeroPageY
  | .absolute _ => .absolute
  | .absoluteX _ => .absoluteX
  | .absoluteY _ => .absoluteY
  | .indirect _ => .indirect
  | .indirectX _ => .indirectX
  | .indirectY _ => .indirectY

/-- What an instruction that reads its operand reads (R133): the operand byte itself, or the byte at an effective address. -/
inductive Source where
  | immediate (v : Byte)
  | memory (m : MemOperand)
  deriving DecidableEq, Repr

/-- The mode of a source operand. -/
def Source.mode : Source → Mode
  | .immediate _ => .immediate
  | .memory m => m.mode

/-- The condition of a relative branch (R202 to R209): `cc` is that of BCC, and so on. -/
inductive Condition where
  | cc | cs | ne | eq | pl | mi | vc | vs
  deriving DecidableEq, Repr

/-- The twenty admitted instruction kinds (R118). -/
inductive Kind where
  | lda | sta | stx | sty | tax | tay | inx | iny | and | asl | adc
  | bcc | bcs | bne | beq | bpl | bmi | bvc | bvs | brk
  deriving DecidableEq, Repr

/-- The historical mnemonics of the unimplemented rows (R84, R86). -/
inductive Unsupported where
  | bit | clc | cld | cli | clv | cmp | cpx | cpy | dec | dex | dey | eor
  | inc | jmp | jsr | ldx | ldy | lsr | nop | ora | pha | php | pla | plp
  | rol | ror | rti | rts | sbc | sec | sed | sei | tsx | txa | txs | tya
  deriving DecidableEq, Repr

/-- What a decoded instruction does: "a tagged instruction-kind + addressing-mode value" (R118), or one of the two faults. -/
inductive Operation where
  | lda (src : Source)
  | and (src : Source)
  | adc (src : Source)
  | sta (dst : MemOperand)
  | stx (dst : MemOperand)
  | sty (dst : MemOperand)
  | aslA
  | asl (dst : MemOperand)
  | tax
  | tay
  | inx
  | iny
  | branch (cond : Condition) (d : Int)
  | brk
  | unimplemented (m : Unsupported)
  | illegal
  deriving DecidableEq, Repr

/-- The instruction. A branch carries its displacement as a signed number, "a signed 8-bit displacement" (R16);
`Instr.wellFormed` says that it fits in 8 bits. -/
inductive Instr where
  /-- 0x00 BRK Implied (R83, R210). -/
  | brk
  /-- 0x01, the historical ORA IndirectX: unimplemented (R86, R221). -/
  | oraIndirectX
  /-- 0x02: illegal (R87, R223). -/
  | illegal02
  /-- 0x03: illegal (R87, R223). -/
  | illegal03
  /-- 0x04: illegal (R87, R223). -/
  | illegal04
  /-- 0x05, the historical ORA ZeroPage: unimplemented (R86, R221). -/
  | oraZeroPage
  /-- 0x06 ASL ZeroPage (R83, R177). -/
  | aslZeroPage (addr : Byte)
  /-- 0x07: illegal (R87, R223). -/
  | illegal07
  /-- 0x08, the historical PHP Implied: unimplemented (R86, R221). -/
  | php
  /-- 0x09, the historical ORA Immediate: unimplemented (R86, R221). -/
  | oraImmediate
  /-- 0x0A ASL Accumulator (R83, R176). -/
  | aslAccumulator
  /-- 0x0B: illegal (R87, R223). -/
  | illegal0B
  /-- 0x0C: illegal (R87, R223). -/
  | illegal0C
  /-- 0x0D, the historical ORA Absolute: unimplemented (R86, R221). -/
  | oraAbsolute
  /-- 0x0E ASL Absolute (R83, R177). -/
  | aslAbsolute (addr : Address)
  /-- 0x0F: illegal (R87, R223). -/
  | illegal0F
  /-- 0x10 BPL Relative (R83, R206). -/
  | bpl (d : Int)
  /-- 0x11, the historical ORA IndirectY: unimplemented (R86, R221). -/
  | oraIndirectY
  /-- 0x12: illegal (R87, R223). -/
  | illegal12
  /-- 0x13: illegal (R87, R223). -/
  | illegal13
  /-- 0x14: illegal (R87, R223). -/
  | illegal14
  /-- 0x15, the historical ORA ZeroPageX: unimplemented (R86, R221). -/
  | oraZeroPageX
  /-- 0x16 ASL ZeroPageX (R83, R177). -/
  | aslZeroPageX (addr : Byte)
  /-- 0x17: illegal (R87, R223). -/
  | illegal17
  /-- 0x18, the historical CLC Implied: unimplemented (R86, R221). -/
  | clc
  /-- 0x19, the historical ORA AbsoluteY: unimplemented (R86, R221). -/
  | oraAbsoluteY
  /-- 0x1A: illegal (R87, R223). -/
  | illegal1A
  /-- 0x1B: illegal (R87, R223). -/
  | illegal1B
  /-- 0x1C: illegal (R87, R223). -/
  | illegal1C
  /-- 0x1D, the historical ORA AbsoluteX: unimplemented (R86, R221). -/
  | oraAbsoluteX
  /-- 0x1E ASL AbsoluteX (R83, R177). -/
  | aslAbsoluteX (addr : Address)
  /-- 0x1F: illegal (R87, R223). -/
  | illegal1F
  /-- 0x20, the historical JSR Absolute: unimplemented (R86, R221). -/
  | jsr
  /-- 0x21 AND IndirectX (R83, R174). -/
  | andIndirectX (ptr : Byte)
  /-- 0x22: illegal (R87, R223). -/
  | illegal22
  /-- 0x23: illegal (R87, R223). -/
  | illegal23
  /-- 0x24, the historical BIT ZeroPage: unimplemented (R86, R221). -/
  | bitZeroPage
  /-- 0x25 AND ZeroPage (R83, R174). -/
  | andZeroPage (addr : Byte)
  /-- 0x26, the historical ROL ZeroPage: unimplemented (R86, R221). -/
  | rolZeroPage
  /-- 0x27: illegal (R87, R223). -/
  | illegal27
  /-- 0x28, the historical PLP Implied: unimplemented (R86, R221). -/
  | plp
  /-- 0x29 AND Immediate (R83, R174). -/
  | andImmediate (v : Byte)
  /-- 0x2A, the historical ROL Accumulator: unimplemented (R86, R221). -/
  | rolAccumulator
  /-- 0x2B: illegal (R87, R223). -/
  | illegal2B
  /-- 0x2C, the historical BIT Absolute: unimplemented (R86, R221). -/
  | bitAbsolute
  /-- 0x2D AND Absolute (R83, R174). -/
  | andAbsolute (addr : Address)
  /-- 0x2E, the historical ROL Absolute: unimplemented (R86, R221). -/
  | rolAbsolute
  /-- 0x2F: illegal (R87, R223). -/
  | illegal2F
  /-- 0x30 BMI Relative (R83, R207). -/
  | bmi (d : Int)
  /-- 0x31 AND IndirectY (R83, R174). -/
  | andIndirectY (ptr : Byte)
  /-- 0x32: illegal (R87, R223). -/
  | illegal32
  /-- 0x33: illegal (R87, R223). -/
  | illegal33
  /-- 0x34: illegal (R87, R223). -/
  | illegal34
  /-- 0x35 AND ZeroPageX (R83, R174). -/
  | andZeroPageX (addr : Byte)
  /-- 0x36, the historical ROL ZeroPageX: unimplemented (R86, R221). -/
  | rolZeroPageX
  /-- 0x37: illegal (R87, R223). -/
  | illegal37
  /-- 0x38, the historical SEC Implied: unimplemented (R86, R221). -/
  | sec
  /-- 0x39 AND AbsoluteY (R83, R174). -/
  | andAbsoluteY (addr : Address)
  /-- 0x3A: illegal (R87, R223). -/
  | illegal3A
  /-- 0x3B: illegal (R87, R223). -/
  | illegal3B
  /-- 0x3C: illegal (R87, R223). -/
  | illegal3C
  /-- 0x3D AND AbsoluteX (R83, R174). -/
  | andAbsoluteX (addr : Address)
  /-- 0x3E, the historical ROL AbsoluteX: unimplemented (R86, R221). -/
  | rolAbsoluteX
  /-- 0x3F: illegal (R87, R223). -/
  | illegal3F
  /-- 0x40, the historical RTI Implied: unimplemented (R86, R221). -/
  | rti
  /-- 0x41, the historical EOR IndirectX: unimplemented (R86, R221). -/
  | eorIndirectX
  /-- 0x42: illegal (R87, R223). -/
  | illegal42
  /-- 0x43: illegal (R87, R223). -/
  | illegal43
  /-- 0x44: illegal (R87, R223). -/
  | illegal44
  /-- 0x45, the historical EOR ZeroPage: unimplemented (R86, R221). -/
  | eorZeroPage
  /-- 0x46, the historical LSR ZeroPage: unimplemented (R86, R221). -/
  | lsrZeroPage
  /-- 0x47: illegal (R87, R223). -/
  | illegal47
  /-- 0x48, the historical PHA Implied: unimplemented (R86, R221). -/
  | pha
  /-- 0x49, the historical EOR Immediate: unimplemented (R86, R221). -/
  | eorImmediate
  /-- 0x4A, the historical LSR Accumulator: unimplemented (R86, R221). -/
  | lsrAccumulator
  /-- 0x4B: illegal (R87, R223). -/
  | illegal4B
  /-- 0x4C, the historical JMP Absolute: unimplemented (R86, R221). -/
  | jmpAbsolute
  /-- 0x4D, the historical EOR Absolute: unimplemented (R86, R221). -/
  | eorAbsolute
  /-- 0x4E, the historical LSR Absolute: unimplemented (R86, R221). -/
  | lsrAbsolute
  /-- 0x4F: illegal (R87, R223). -/
  | illegal4F
  /-- 0x50 BVC Relative (R83, R208). -/
  | bvc (d : Int)
  /-- 0x51, the historical EOR IndirectY: unimplemented (R86, R221). -/
  | eorIndirectY
  /-- 0x52: illegal (R87, R223). -/
  | illegal52
  /-- 0x53: illegal (R87, R223). -/
  | illegal53
  /-- 0x54: illegal (R87, R223). -/
  | illegal54
  /-- 0x55, the historical EOR ZeroPageX: unimplemented (R86, R221). -/
  | eorZeroPageX
  /-- 0x56, the historical LSR ZeroPageX: unimplemented (R86, R221). -/
  | lsrZeroPageX
  /-- 0x57: illegal (R87, R223). -/
  | illegal57
  /-- 0x58, the historical CLI Implied: unimplemented (R86, R221). -/
  | cli
  /-- 0x59, the historical EOR AbsoluteY: unimplemented (R86, R221). -/
  | eorAbsoluteY
  /-- 0x5A: illegal (R87, R223). -/
  | illegal5A
  /-- 0x5B: illegal (R87, R223). -/
  | illegal5B
  /-- 0x5C: illegal (R87, R223). -/
  | illegal5C
  /-- 0x5D, the historical EOR AbsoluteX: unimplemented (R86, R221). -/
  | eorAbsoluteX
  /-- 0x5E, the historical LSR AbsoluteX: unimplemented (R86, R221). -/
  | lsrAbsoluteX
  /-- 0x5F: illegal (R87, R223). -/
  | illegal5F
  /-- 0x60, the historical RTS Implied: unimplemented (R86, R221). -/
  | rts
  /-- 0x61 ADC IndirectX (R83, R180). -/
  | adcIndirectX (ptr : Byte)
  /-- 0x62: illegal (R87, R223). -/
  | illegal62
  /-- 0x63: illegal (R87, R223). -/
  | illegal63
  /-- 0x64: illegal (R87, R223). -/
  | illegal64
  /-- 0x65 ADC ZeroPage (R83, R180). -/
  | adcZeroPage (addr : Byte)
  /-- 0x66, the historical ROR ZeroPage: unimplemented (R86, R221). -/
  | rorZeroPage
  /-- 0x67: illegal (R87, R223). -/
  | illegal67
  /-- 0x68, the historical PLA Implied: unimplemented (R86, R221). -/
  | pla
  /-- 0x69 ADC Immediate (R83, R180). -/
  | adcImmediate (v : Byte)
  /-- 0x6A, the historical ROR Accumulator: unimplemented (R86, R221). -/
  | rorAccumulator
  /-- 0x6B: illegal (R87, R223). -/
  | illegal6B
  /-- 0x6C, the historical JMP Indirect: unimplemented (R86, R221). -/
  | jmpIndirect
  /-- 0x6D ADC Absolute (R83, R180). -/
  | adcAbsolute (addr : Address)
  /-- 0x6E, the historical ROR Absolute: unimplemented (R86, R221). -/
  | rorAbsolute
  /-- 0x6F: illegal (R87, R223). -/
  | illegal6F
  /-- 0x70 BVS Relative (R83, R209). -/
  | bvs (d : Int)
  /-- 0x71 ADC IndirectY (R83, R180). -/
  | adcIndirectY (ptr : Byte)
  /-- 0x72: illegal (R87, R223). -/
  | illegal72
  /-- 0x73: illegal (R87, R223). -/
  | illegal73
  /-- 0x74: illegal (R87, R223). -/
  | illegal74
  /-- 0x75 ADC ZeroPageX (R83, R180). -/
  | adcZeroPageX (addr : Byte)
  /-- 0x76, the historical ROR ZeroPageX: unimplemented (R86, R221). -/
  | rorZeroPageX
  /-- 0x77: illegal (R87, R223). -/
  | illegal77
  /-- 0x78, the historical SEI Implied: unimplemented (R86, R221). -/
  | sei
  /-- 0x79 ADC AbsoluteY (R83, R180). -/
  | adcAbsoluteY (addr : Address)
  /-- 0x7A: illegal (R87, R223). -/
  | illegal7A
  /-- 0x7B: illegal (R87, R223). -/
  | illegal7B
  /-- 0x7C: illegal (R87, R223). -/
  | illegal7C
  /-- 0x7D ADC AbsoluteX (R83, R180). -/
  | adcAbsoluteX (addr : Address)
  /-- 0x7E, the historical ROR AbsoluteX: unimplemented (R86, R221). -/
  | rorAbsoluteX
  /-- 0x7F: illegal (R87, R223). -/
  | illegal7F
  /-- 0x80: illegal (R87, R223). -/
  | illegal80
  /-- 0x81 STA IndirectX (R83, R152). -/
  | staIndirectX (ptr : Byte)
  /-- 0x82: illegal (R87, R223). -/
  | illegal82
  /-- 0x83: illegal (R87, R223). -/
  | illegal83
  /-- 0x84 STY ZeroPage (R83, R154). -/
  | styZeroPage (addr : Byte)
  /-- 0x85 STA ZeroPage (R83, R152). -/
  | staZeroPage (addr : Byte)
  /-- 0x86 STX ZeroPage (R83, R153). -/
  | stxZeroPage (addr : Byte)
  /-- 0x87: illegal (R87, R223). -/
  | illegal87
  /-- 0x88, the historical DEY Implied: unimplemented (R86, R221). -/
  | dey
  /-- 0x89: illegal (R87, R223). -/
  | illegal89
  /-- 0x8A, the historical TXA Implied: unimplemented (R86, R221). -/
  | txa
  /-- 0x8B: illegal (R87, R223). -/
  | illegal8B
  /-- 0x8C STY Absolute (R83, R154). -/
  | styAbsolute (addr : Address)
  /-- 0x8D STA Absolute (R83, R152). -/
  | staAbsolute (addr : Address)
  /-- 0x8E STX Absolute (R83, R153). -/
  | stxAbsolute (addr : Address)
  /-- 0x8F: illegal (R87, R223). -/
  | illegal8F
  /-- 0x90 BCC Relative (R83, R202). -/
  | bcc (d : Int)
  /-- 0x91 STA IndirectY (R83, R152). -/
  | staIndirectY (ptr : Byte)
  /-- 0x92: illegal (R87, R223). -/
  | illegal92
  /-- 0x93: illegal (R87, R223). -/
  | illegal93
  /-- 0x94 STY ZeroPageX (R83, R154). -/
  | styZeroPageX (addr : Byte)
  /-- 0x95 STA ZeroPageX (R83, R152). -/
  | staZeroPageX (addr : Byte)
  /-- 0x96 STX ZeroPageY (R83, R153). -/
  | stxZeroPageY (addr : Byte)
  /-- 0x97: illegal (R87, R223). -/
  | illegal97
  /-- 0x98, the historical TYA Implied: unimplemented (R86, R221). -/
  | tya
  /-- 0x99 STA AbsoluteY (R83, R152). -/
  | staAbsoluteY (addr : Address)
  /-- 0x9A, the historical TXS Implied: unimplemented (R86, R221). -/
  | txs
  /-- 0x9B: illegal (R87, R223). -/
  | illegal9B
  /-- 0x9C: illegal (R87, R223). -/
  | illegal9C
  /-- 0x9D STA AbsoluteX (R83, R152). -/
  | staAbsoluteX (addr : Address)
  /-- 0x9E: illegal (R87, R223). -/
  | illegal9E
  /-- 0x9F: illegal (R87, R223). -/
  | illegal9F
  /-- 0xA0, the historical LDY Immediate: unimplemented (R86, R221). -/
  | ldyImmediate
  /-- 0xA1 LDA IndirectX (R83, R150). -/
  | ldaIndirectX (ptr : Byte)
  /-- 0xA2, the historical LDX Immediate: unimplemented (R86, R221). -/
  | ldxImmediate
  /-- 0xA3: illegal (R87, R223). -/
  | illegalA3
  /-- 0xA4, the historical LDY ZeroPage: unimplemented (R86, R221). -/
  | ldyZeroPage
  /-- 0xA5 LDA ZeroPage (R83, R150). -/
  | ldaZeroPage (addr : Byte)
  /-- 0xA6, the historical LDX ZeroPage: unimplemented (R86, R221). -/
  | ldxZeroPage
  /-- 0xA7: illegal (R87, R223). -/
  | illegalA7
  /-- 0xA8 TAY Implied (R83, R157). -/
  | tay
  /-- 0xA9 LDA Immediate (R83, R150). -/
  | ldaImmediate (v : Byte)
  /-- 0xAA TAX Implied (R83, R156). -/
  | tax
  /-- 0xAB: illegal (R87, R223). -/
  | illegalAB
  /-- 0xAC, the historical LDY Absolute: unimplemented (R86, R221). -/
  | ldyAbsolute
  /-- 0xAD LDA Absolute (R83, R150). -/
  | ldaAbsolute (addr : Address)
  /-- 0xAE, the historical LDX Absolute: unimplemented (R86, R221). -/
  | ldxAbsolute
  /-- 0xAF: illegal (R87, R223). -/
  | illegalAF
  /-- 0xB0 BCS Relative (R83, R203). -/
  | bcs (d : Int)
  /-- 0xB1 LDA IndirectY (R83, R150). -/
  | ldaIndirectY (ptr : Byte)
  /-- 0xB2: illegal (R87, R223). -/
  | illegalB2
  /-- 0xB3: illegal (R87, R223). -/
  | illegalB3
  /-- 0xB4, the historical LDY ZeroPageX: unimplemented (R86, R221). -/
  | ldyZeroPageX
  /-- 0xB5 LDA ZeroPageX (R83, R150). -/
  | ldaZeroPageX (addr : Byte)
  /-- 0xB6, the historical LDX ZeroPageY: unimplemented (R86, R221). -/
  | ldxZeroPageY
  /-- 0xB7: illegal (R87, R223). -/
  | illegalB7
  /-- 0xB8, the historical CLV Implied: unimplemented (R86, R221). -/
  | clv
  /-- 0xB9 LDA AbsoluteY (R83, R150). -/
  | ldaAbsoluteY (addr : Address)
  /-- 0xBA, the historical TSX Implied: unimplemented (R86, R221). -/
  | tsx
  /-- 0xBB: illegal (R87, R223). -/
  | illegalBB
  /-- 0xBC, the historical LDY AbsoluteX: unimplemented (R86, R221). -/
  | ldyAbsoluteX
  /-- 0xBD LDA AbsoluteX (R83, R150). -/
  | ldaAbsoluteX (addr : Address)
  /-- 0xBE, the historical LDX AbsoluteY: unimplemented (R86, R221). -/
  | ldxAbsoluteY
  /-- 0xBF: illegal (R87, R223). -/
  | illegalBF
  /-- 0xC0, the historical CPY Immediate: unimplemented (R86, R221). -/
  | cpyImmediate
  /-- 0xC1, the historical CMP IndirectX: unimplemented (R86, R221). -/
  | cmpIndirectX
  /-- 0xC2: illegal (R87, R223). -/
  | illegalC2
  /-- 0xC3: illegal (R87, R223). -/
  | illegalC3
  /-- 0xC4, the historical CPY ZeroPage: unimplemented (R86, R221). -/
  | cpyZeroPage
  /-- 0xC5, the historical CMP ZeroPage: unimplemented (R86, R221). -/
  | cmpZeroPage
  /-- 0xC6, the historical DEC ZeroPage: unimplemented (R86, R221). -/
  | decZeroPage
  /-- 0xC7: illegal (R87, R223). -/
  | illegalC7
  /-- 0xC8 INY Implied (R83, R173). -/
  | iny
  /-- 0xC9, the historical CMP Immediate: unimplemented (R86, R221). -/
  | cmpImmediate
  /-- 0xCA, the historical DEX Implied: unimplemented (R86, R221). -/
  | dex
  /-- 0xCB: illegal (R87, R223). -/
  | illegalCB
  /-- 0xCC, the historical CPY Absolute: unimplemented (R86, R221). -/
  | cpyAbsolute
  /-- 0xCD, the historical CMP Absolute: unimplemented (R86, R221). -/
  | cmpAbsolute
  /-- 0xCE, the historical DEC Absolute: unimplemented (R86, R221). -/
  | decAbsolute
  /-- 0xCF: illegal (R87, R223). -/
  | illegalCF
  /-- 0xD0 BNE Relative (R83, R204). -/
  | bne (d : Int)
  /-- 0xD1, the historical CMP IndirectY: unimplemented (R86, R221). -/
  | cmpIndirectY
  /-- 0xD2: illegal (R87, R223). -/
  | illegalD2
  /-- 0xD3: illegal (R87, R223). -/
  | illegalD3
  /-- 0xD4: illegal (R87, R223). -/
  | illegalD4
  /-- 0xD5, the historical CMP ZeroPageX: unimplemented (R86, R221). -/
  | cmpZeroPageX
  /-- 0xD6, the historical DEC ZeroPageX: unimplemented (R86, R221). -/
  | decZeroPageX
  /-- 0xD7: illegal (R87, R223). -/
  | illegalD7
  /-- 0xD8, the historical CLD Implied: unimplemented (R86, R221). -/
  | cld
  /-- 0xD9, the historical CMP AbsoluteY: unimplemented (R86, R221). -/
  | cmpAbsoluteY
  /-- 0xDA: illegal (R87, R223). -/
  | illegalDA
  /-- 0xDB: illegal (R87, R223). -/
  | illegalDB
  /-- 0xDC: illegal (R87, R223). -/
  | illegalDC
  /-- 0xDD, the historical CMP AbsoluteX: unimplemented (R86, R221). -/
  | cmpAbsoluteX
  /-- 0xDE, the historical DEC AbsoluteX: unimplemented (R86, R221). -/
  | decAbsoluteX
  /-- 0xDF: illegal (R87, R223). -/
  | illegalDF
  /-- 0xE0, the historical CPX Immediate: unimplemented (R86, R221). -/
  | cpxImmediate
  /-- 0xE1, the historical SBC IndirectX: unimplemented (R86, R221). -/
  | sbcIndirectX
  /-- 0xE2: illegal (R87, R223). -/
  | illegalE2
  /-- 0xE3: illegal (R87, R223). -/
  | illegalE3
  /-- 0xE4, the historical CPX ZeroPage: unimplemented (R86, R221). -/
  | cpxZeroPage
  /-- 0xE5, the historical SBC ZeroPage: unimplemented (R86, R221). -/
  | sbcZeroPage
  /-- 0xE6, the historical INC ZeroPage: unimplemented (R86, R221). -/
  | incZeroPage
  /-- 0xE7: illegal (R87, R223). -/
  | illegalE7
  /-- 0xE8 INX Implied (R83, R172). -/
  | inx
  /-- 0xE9, the historical SBC Immediate: unimplemented (R86, R221). -/
  | sbcImmediate
  /-- 0xEA, the historical NOP Implied: unimplemented (R86, R221). -/
  | nop
  /-- 0xEB: illegal (R87, R223). -/
  | illegalEB
  /-- 0xEC, the historical CPX Absolute: unimplemented (R86, R221). -/
  | cpxAbsolute
  /-- 0xED, the historical SBC Absolute: unimplemented (R86, R221). -/
  | sbcAbsolute
  /-- 0xEE, the historical INC Absolute: unimplemented (R86, R221). -/
  | incAbsolute
  /-- 0xEF: illegal (R87, R223). -/
  | illegalEF
  /-- 0xF0 BEQ Relative (R83, R205). -/
  | beq (d : Int)
  /-- 0xF1, the historical SBC IndirectY: unimplemented (R86, R221). -/
  | sbcIndirectY
  /-- 0xF2: illegal (R87, R223). -/
  | illegalF2
  /-- 0xF3: illegal (R87, R223). -/
  | illegalF3
  /-- 0xF4: illegal (R87, R223). -/
  | illegalF4
  /-- 0xF5, the historical SBC ZeroPageX: unimplemented (R86, R221). -/
  | sbcZeroPageX
  /-- 0xF6, the historical INC ZeroPageX: unimplemented (R86, R221). -/
  | incZeroPageX
  /-- 0xF7: illegal (R87, R223). -/
  | illegalF7
  /-- 0xF8, the historical SED Implied: unimplemented (R86, R221). -/
  | sed
  /-- 0xF9, the historical SBC AbsoluteY: unimplemented (R86, R221). -/
  | sbcAbsoluteY
  /-- 0xFA: illegal (R87, R223). -/
  | illegalFA
  /-- 0xFB: illegal (R87, R223). -/
  | illegalFB
  /-- 0xFC: illegal (R87, R223). -/
  | illegalFC
  /-- 0xFD, the historical SBC AbsoluteX: unimplemented (R86, R221). -/
  | sbcAbsoluteX
  /-- 0xFE, the historical INC AbsoluteX: unimplemented (R86, R221). -/
  | incAbsoluteX
  /-- 0xFF: illegal (R87, R223). -/
  | illegalFF
  deriving DecidableEq, Repr

/-- The operation of each row (R83, R86, R87). -/
def Instr.operation : Instr → Operation
  | .brk => .brk
  | .oraIndirectX => .unimplemented .ora
  | .illegal02 => .illegal
  | .illegal03 => .illegal
  | .illegal04 => .illegal
  | .oraZeroPage => .unimplemented .ora
  | .aslZeroPage addr => .asl (.zeroPage addr)
  | .illegal07 => .illegal
  | .php => .unimplemented .php
  | .oraImmediate => .unimplemented .ora
  | .aslAccumulator => .aslA
  | .illegal0B => .illegal
  | .illegal0C => .illegal
  | .oraAbsolute => .unimplemented .ora
  | .aslAbsolute addr => .asl (.absolute addr)
  | .illegal0F => .illegal
  | .bpl d => .branch .pl d
  | .oraIndirectY => .unimplemented .ora
  | .illegal12 => .illegal
  | .illegal13 => .illegal
  | .illegal14 => .illegal
  | .oraZeroPageX => .unimplemented .ora
  | .aslZeroPageX addr => .asl (.zeroPageX addr)
  | .illegal17 => .illegal
  | .clc => .unimplemented .clc
  | .oraAbsoluteY => .unimplemented .ora
  | .illegal1A => .illegal
  | .illegal1B => .illegal
  | .illegal1C => .illegal
  | .oraAbsoluteX => .unimplemented .ora
  | .aslAbsoluteX addr => .asl (.absoluteX addr)
  | .illegal1F => .illegal
  | .jsr => .unimplemented .jsr
  | .andIndirectX ptr => .and (.memory (.indirectX ptr))
  | .illegal22 => .illegal
  | .illegal23 => .illegal
  | .bitZeroPage => .unimplemented .bit
  | .andZeroPage addr => .and (.memory (.zeroPage addr))
  | .rolZeroPage => .unimplemented .rol
  | .illegal27 => .illegal
  | .plp => .unimplemented .plp
  | .andImmediate v => .and (.immediate v)
  | .rolAccumulator => .unimplemented .rol
  | .illegal2B => .illegal
  | .bitAbsolute => .unimplemented .bit
  | .andAbsolute addr => .and (.memory (.absolute addr))
  | .rolAbsolute => .unimplemented .rol
  | .illegal2F => .illegal
  | .bmi d => .branch .mi d
  | .andIndirectY ptr => .and (.memory (.indirectY ptr))
  | .illegal32 => .illegal
  | .illegal33 => .illegal
  | .illegal34 => .illegal
  | .andZeroPageX addr => .and (.memory (.zeroPageX addr))
  | .rolZeroPageX => .unimplemented .rol
  | .illegal37 => .illegal
  | .sec => .unimplemented .sec
  | .andAbsoluteY addr => .and (.memory (.absoluteY addr))
  | .illegal3A => .illegal
  | .illegal3B => .illegal
  | .illegal3C => .illegal
  | .andAbsoluteX addr => .and (.memory (.absoluteX addr))
  | .rolAbsoluteX => .unimplemented .rol
  | .illegal3F => .illegal
  | .rti => .unimplemented .rti
  | .eorIndirectX => .unimplemented .eor
  | .illegal42 => .illegal
  | .illegal43 => .illegal
  | .illegal44 => .illegal
  | .eorZeroPage => .unimplemented .eor
  | .lsrZeroPage => .unimplemented .lsr
  | .illegal47 => .illegal
  | .pha => .unimplemented .pha
  | .eorImmediate => .unimplemented .eor
  | .lsrAccumulator => .unimplemented .lsr
  | .illegal4B => .illegal
  | .jmpAbsolute => .unimplemented .jmp
  | .eorAbsolute => .unimplemented .eor
  | .lsrAbsolute => .unimplemented .lsr
  | .illegal4F => .illegal
  | .bvc d => .branch .vc d
  | .eorIndirectY => .unimplemented .eor
  | .illegal52 => .illegal
  | .illegal53 => .illegal
  | .illegal54 => .illegal
  | .eorZeroPageX => .unimplemented .eor
  | .lsrZeroPageX => .unimplemented .lsr
  | .illegal57 => .illegal
  | .cli => .unimplemented .cli
  | .eorAbsoluteY => .unimplemented .eor
  | .illegal5A => .illegal
  | .illegal5B => .illegal
  | .illegal5C => .illegal
  | .eorAbsoluteX => .unimplemented .eor
  | .lsrAbsoluteX => .unimplemented .lsr
  | .illegal5F => .illegal
  | .rts => .unimplemented .rts
  | .adcIndirectX ptr => .adc (.memory (.indirectX ptr))
  | .illegal62 => .illegal
  | .illegal63 => .illegal
  | .illegal64 => .illegal
  | .adcZeroPage addr => .adc (.memory (.zeroPage addr))
  | .rorZeroPage => .unimplemented .ror
  | .illegal67 => .illegal
  | .pla => .unimplemented .pla
  | .adcImmediate v => .adc (.immediate v)
  | .rorAccumulator => .unimplemented .ror
  | .illegal6B => .illegal
  | .jmpIndirect => .unimplemented .jmp
  | .adcAbsolute addr => .adc (.memory (.absolute addr))
  | .rorAbsolute => .unimplemented .ror
  | .illegal6F => .illegal
  | .bvs d => .branch .vs d
  | .adcIndirectY ptr => .adc (.memory (.indirectY ptr))
  | .illegal72 => .illegal
  | .illegal73 => .illegal
  | .illegal74 => .illegal
  | .adcZeroPageX addr => .adc (.memory (.zeroPageX addr))
  | .rorZeroPageX => .unimplemented .ror
  | .illegal77 => .illegal
  | .sei => .unimplemented .sei
  | .adcAbsoluteY addr => .adc (.memory (.absoluteY addr))
  | .illegal7A => .illegal
  | .illegal7B => .illegal
  | .illegal7C => .illegal
  | .adcAbsoluteX addr => .adc (.memory (.absoluteX addr))
  | .rorAbsoluteX => .unimplemented .ror
  | .illegal7F => .illegal
  | .illegal80 => .illegal
  | .staIndirectX ptr => .sta (.indirectX ptr)
  | .illegal82 => .illegal
  | .illegal83 => .illegal
  | .styZeroPage addr => .sty (.zeroPage addr)
  | .staZeroPage addr => .sta (.zeroPage addr)
  | .stxZeroPage addr => .stx (.zeroPage addr)
  | .illegal87 => .illegal
  | .dey => .unimplemented .dey
  | .illegal89 => .illegal
  | .txa => .unimplemented .txa
  | .illegal8B => .illegal
  | .styAbsolute addr => .sty (.absolute addr)
  | .staAbsolute addr => .sta (.absolute addr)
  | .stxAbsolute addr => .stx (.absolute addr)
  | .illegal8F => .illegal
  | .bcc d => .branch .cc d
  | .staIndirectY ptr => .sta (.indirectY ptr)
  | .illegal92 => .illegal
  | .illegal93 => .illegal
  | .styZeroPageX addr => .sty (.zeroPageX addr)
  | .staZeroPageX addr => .sta (.zeroPageX addr)
  | .stxZeroPageY addr => .stx (.zeroPageY addr)
  | .illegal97 => .illegal
  | .tya => .unimplemented .tya
  | .staAbsoluteY addr => .sta (.absoluteY addr)
  | .txs => .unimplemented .txs
  | .illegal9B => .illegal
  | .illegal9C => .illegal
  | .staAbsoluteX addr => .sta (.absoluteX addr)
  | .illegal9E => .illegal
  | .illegal9F => .illegal
  | .ldyImmediate => .unimplemented .ldy
  | .ldaIndirectX ptr => .lda (.memory (.indirectX ptr))
  | .ldxImmediate => .unimplemented .ldx
  | .illegalA3 => .illegal
  | .ldyZeroPage => .unimplemented .ldy
  | .ldaZeroPage addr => .lda (.memory (.zeroPage addr))
  | .ldxZeroPage => .unimplemented .ldx
  | .illegalA7 => .illegal
  | .tay => .tay
  | .ldaImmediate v => .lda (.immediate v)
  | .tax => .tax
  | .illegalAB => .illegal
  | .ldyAbsolute => .unimplemented .ldy
  | .ldaAbsolute addr => .lda (.memory (.absolute addr))
  | .ldxAbsolute => .unimplemented .ldx
  | .illegalAF => .illegal
  | .bcs d => .branch .cs d
  | .ldaIndirectY ptr => .lda (.memory (.indirectY ptr))
  | .illegalB2 => .illegal
  | .illegalB3 => .illegal
  | .ldyZeroPageX => .unimplemented .ldy
  | .ldaZeroPageX addr => .lda (.memory (.zeroPageX addr))
  | .ldxZeroPageY => .unimplemented .ldx
  | .illegalB7 => .illegal
  | .clv => .unimplemented .clv
  | .ldaAbsoluteY addr => .lda (.memory (.absoluteY addr))
  | .tsx => .unimplemented .tsx
  | .illegalBB => .illegal
  | .ldyAbsoluteX => .unimplemented .ldy
  | .ldaAbsoluteX addr => .lda (.memory (.absoluteX addr))
  | .ldxAbsoluteY => .unimplemented .ldx
  | .illegalBF => .illegal
  | .cpyImmediate => .unimplemented .cpy
  | .cmpIndirectX => .unimplemented .cmp
  | .illegalC2 => .illegal
  | .illegalC3 => .illegal
  | .cpyZeroPage => .unimplemented .cpy
  | .cmpZeroPage => .unimplemented .cmp
  | .decZeroPage => .unimplemented .dec
  | .illegalC7 => .illegal
  | .iny => .iny
  | .cmpImmediate => .unimplemented .cmp
  | .dex => .unimplemented .dex
  | .illegalCB => .illegal
  | .cpyAbsolute => .unimplemented .cpy
  | .cmpAbsolute => .unimplemented .cmp
  | .decAbsolute => .unimplemented .dec
  | .illegalCF => .illegal
  | .bne d => .branch .ne d
  | .cmpIndirectY => .unimplemented .cmp
  | .illegalD2 => .illegal
  | .illegalD3 => .illegal
  | .illegalD4 => .illegal
  | .cmpZeroPageX => .unimplemented .cmp
  | .decZeroPageX => .unimplemented .dec
  | .illegalD7 => .illegal
  | .cld => .unimplemented .cld
  | .cmpAbsoluteY => .unimplemented .cmp
  | .illegalDA => .illegal
  | .illegalDB => .illegal
  | .illegalDC => .illegal
  | .cmpAbsoluteX => .unimplemented .cmp
  | .decAbsoluteX => .unimplemented .dec
  | .illegalDF => .illegal
  | .cpxImmediate => .unimplemented .cpx
  | .sbcIndirectX => .unimplemented .sbc
  | .illegalE2 => .illegal
  | .illegalE3 => .illegal
  | .cpxZeroPage => .unimplemented .cpx
  | .sbcZeroPage => .unimplemented .sbc
  | .incZeroPage => .unimplemented .inc
  | .illegalE7 => .illegal
  | .inx => .inx
  | .sbcImmediate => .unimplemented .sbc
  | .nop => .unimplemented .nop
  | .illegalEB => .illegal
  | .cpxAbsolute => .unimplemented .cpx
  | .sbcAbsolute => .unimplemented .sbc
  | .incAbsolute => .unimplemented .inc
  | .illegalEF => .illegal
  | .beq d => .branch .eq d
  | .sbcIndirectY => .unimplemented .sbc
  | .illegalF2 => .illegal
  | .illegalF3 => .illegal
  | .illegalF4 => .illegal
  | .sbcZeroPageX => .unimplemented .sbc
  | .incZeroPageX => .unimplemented .inc
  | .illegalF7 => .illegal
  | .sed => .unimplemented .sed
  | .sbcAbsoluteY => .unimplemented .sbc
  | .illegalFA => .illegal
  | .illegalFB => .illegal
  | .illegalFC => .illegal
  | .sbcAbsoluteX => .unimplemented .sbc
  | .incAbsoluteX => .unimplemented .inc
  | .illegalFF => .illegal

/-- The kind a branch condition belongs to. -/
def Condition.kind : Condition → Kind
  | .cc => .bcc
  | .cs => .bcs
  | .ne => .bne
  | .eq => .beq
  | .pl => .bpl
  | .mi => .bmi
  | .vc => .bvc
  | .vs => .bvs

/-- The decoder's three classes (R80): "`Admitted(kind, mode, length)`, `Unimplemented(mnemonic)` or `Illegal`". -/
inductive DecodeClass where
  | admitted (kind : Kind) (mode : Mode) (length : Nat)
  | unimplemented (m : Unsupported)
  | illegal
  deriving DecidableEq, Repr

/-- The class of an admitted kind in a mode. -/
def DecodeClass.ofMode (k : Kind) (m : Mode) : DecodeClass := .admitted k m m.operandLength

/-- The class of an operation (R80). -/
def Operation.decodeClass : Operation → DecodeClass
  | .lda src => .ofMode .lda src.mode
  | .and src => .ofMode .and src.mode
  | .adc src => .ofMode .adc src.mode
  | .sta dst => .ofMode .sta dst.mode
  | .stx dst => .ofMode .stx dst.mode
  | .sty dst => .ofMode .sty dst.mode
  | .aslA => .ofMode .asl .accumulator
  | .asl dst => .ofMode .asl dst.mode
  | .tax => .ofMode .tax .implied
  | .tay => .ofMode .tay .implied
  | .inx => .ofMode .inx .implied
  | .iny => .ofMode .iny .implied
  | .branch c _ => .ofMode c.kind .relative
  | .brk => .ofMode .brk .implied
  | .unimplemented m => .unimplemented m
  | .illegal => .illegal

/-- The operand length: that of the mode; an unimplemented or illegal byte has no operand (R89). -/
def DecodeClass.operandLength : DecodeClass → Nat
  | .admitted _ _ len => len
  | .unimplemented _ => 0
  | .illegal => 0

/-- The mode of an admitted instruction; none where a fault is raised before any operand is read (R89). -/
def DecodeClass.mode : DecodeClass → Option Mode
  | .admitted _ m _ => some m
  | .unimplemented _ => none
  | .illegal => none

/-- The class of an instruction (R80). -/
def Instr.decodeClass (i : Instr) : DecodeClass := i.operation.decodeClass

/-- The number of operand bytes of an instruction: 0, 1 or 2 (R82, R89). -/
def Instr.operandLength (i : Instr) : Nat := i.decodeClass.operandLength

end Sys2Proof
end

