-- ==== Sys2Proof/Machine/Flags.lean ====
section
/-! DEFINITION. The ALU's five functions (42_alu.md R170), every flag computation (R171, R181, R182), the byte view of P
(10_state.md R27) and the branch conditions (43_control_flow.md R202 to R209). -/

namespace Sys2Proof.Machine

/-- `inc8(v)` (R170). -/
def inc8 (v : Byte) : Byte := v + 1

/-- `and8(a, m)` (R170). -/
def and8 (a m : Byte) : Byte := a &&& m

/-- The result of `shl8(v)` (R170): (v << 1) mod 256. -/
def shl8 (v : Byte) : Byte := v <<< 1

/-- The carry out of `shl8(v)` (R170): v[7]. -/
def shl8Carry (v : Byte) : Bool := v.getLsbD 7

/-- A flag as a 9-bit number. -/
def carryIn (cin : Bool) : BitVec 9 := if cin then 1 else 0

/-- `sum9 = zext_9(a) + zext_9(m) + cin` (R170, R180). -/
def sum9 (a m : Byte) (cin : Bool) : BitVec 9 := a.setWidth 9 + m.setWidth 9 + carryIn cin

/-- The result of `adc8(a, m, cin)` (R170): sum9[7:0]. -/
def adc8 (a m : Byte) (cin : Bool) : Byte := (sum9 a m cin).setWidth 8

/-- The carry out of `adc8` (R170): sum9[8]. -/
def adc8Carry (a m : Byte) (cin : Bool) : Bool := (sum9 a m cin).getLsbD 8

/-- The overflow of `adc8` (R180): both operands have one sign and the result has the other. The carry in is no operand (R182). -/
def adc8Overflow (a m : Byte) (cin : Bool) : Bool :=
  (a.getLsbD 7 == m.getLsbD 7) && ((adc8 a m cin).getLsbD 7 != a.getLsbD 7)

/-- The zero output of `zn(r)` (R170): r = 0. -/
def isZero (r : Byte) : Bool := decide (r = 0)

/-- The negative output of `zn(r)` (R170): r[7]. -/
def isNegative (r : Byte) : Bool := r.getLsbD 7

/-- `SetZN(b)` (R15), shared by every flag-recomputing instruction (R170). -/
def Flags.setZN (p : Flags) (r : Byte) : Flags := { p with z := isZero r, n := isNegative r }

/-- `P.C <- c`. -/
def Flags.setC (p : Flags) (c : Bool) : Flags := { p with c := c }

/-- `P.V <- v`. -/
def Flags.setV (p : Flags) (v : Bool) : Flags := { p with v := v }

/-- The flags ASL leaves, of the operand's old value (R176, R177). -/
def Flags.afterShift (p : Flags) (v : Byte) : Flags := (p.setC (shl8Carry v)).setZN (shl8 v)

/-- The flags ADC leaves (R180). The carry in is the old P.C; P.D is not looked at (R186). -/
def Flags.afterAdd (p : Flags) (a m : Byte) : Flags :=
  ((p.setC (adc8Carry a m p.c)).setV (adc8Overflow a m p.c)).setZN (adc8 a m p.c)

/-- One bit of P as a byte with that bit at position k. -/
def flagBit (f : Bool) (k : Nat) : Byte := if f then (1 : Byte) <<< k else 0

/-- P as a byte, `{N, V, U, B, D, I, Z, C}` (R27), what the host's inspection reads (R26). -/
def Flags.toByte (p : Flags) : Byte :=
  flagBit p.n 7 ||| flagBit p.v 6 ||| flagBit p.u 5 ||| flagBit p.b 4 |||
  flagBit p.d 3 ||| flagBit p.i 2 ||| flagBit p.z 1 ||| flagBit p.c 0

/-- The flags of a byte in the layout of R27. -/
def Flags.ofByte (w : Byte) : Flags :=
  { c := w.getLsbD 0, z := w.getLsbD 1, i := w.getLsbD 2, d := w.getLsbD 3
    b := w.getLsbD 4, u := w.getLsbD 5, v := w.getLsbD 6, n := w.getLsbD 7 }

/-- `cond(P)` of each branch (R202 to R209). -/
def conditionHolds (p : Flags) : Condition → Bool
  | .cc => !p.c
  | .cs => p.c
  | .ne => !p.z
  | .eq => p.z
  | .pl => !p.n
  | .mi => p.n
  | .vc => !p.v
  | .vs => p.v

end Sys2Proof.Machine
end

