-- ==== Sys2Proof/WellFormed.lean ====
section
/-! DEFINITION. Which terms of `Instr` have an encoding. Every operand but a branch displacement is a word of its exact
width; a displacement must lie in -128 to 127 (30_encoding.md R90: "which must lie in -128..+127 as a signed value"). -/

namespace Sys2Proof

/-- A displacement that fits in the operand byte (R90, R201). -/
def displacementFits (d : Int) : Bool := decide (-128 ≤ d) && decide (d ≤ 127)

/-- The check on an operation's operands. -/
def Operation.wellFormed : Operation → Bool
  | .lda _ => true
  | .and _ => true
  | .adc _ => true
  | .sta _ => true
  | .stx _ => true
  | .sty _ => true
  | .aslA => true
  | .asl _ => true
  | .tax => true
  | .tay => true
  | .inx => true
  | .iny => true
  | .branch _ d => displacementFits d
  | .brk => true
  | .unimplemented _ => true
  | .illegal => true

/-- The check on an instruction. -/
def Instr.wellFormed (i : Instr) : Bool := i.operation.wellFormed

end Sys2Proof
end

