-- ==== Sys2Proof/Decode.lean ====
section
/-! DEFINITION. The opcode decoder (30_encoding.md R80): a fixed function of the opcode byte, total over all 256 values,
and the encoder, written from the same tables (R83, R86, R87). -/

namespace Sys2Proof

/-- `{h, l}` (R10): the 16-bit value with high byte h and low byte l. -/
def wordOf (h l : Byte) : Address := h ++ l

/-- `w[7:0]` (R10). -/
def lowByte (w : Address) : Byte := w.setWidth 8

/-- `w[15:8]` (R10). -/
def highByte (w : Address) : Byte := (w >>> 8).setWidth 8

/-- The displacement an operand byte stands for: its two's-complement value (R16, R201). -/
def displacementOf (b : Byte) : Int := b.toInt

/-- The operand byte of a displacement (R90). -/
def displacementByte (d : Int) : Byte := BitVec.ofInt 8 d

/-- One cell of the opcode map (R84) as the decoder uses it: a whole instruction (format F1), or one that waits for one operand
byte (F2; `relative` reads it as a displacement) or for a little-endian operand word (F3) (R81, R82). -/
inductive Row where
  | one (i : Instr)
  | two (k : Byte → Instr)
  | relative (k : Int → Instr)
  | three (k : Address → Instr)

/-- Row 0x of the opcode map (R84). -/
def opcodeRow0 : Vector Row 16 := #v[
  .one .brk, .one .oraIndirectX, .one .illegal02, .one .illegal03,
  .one .illegal04, .one .oraZeroPage, .two .aslZeroPage, .one .illegal07,
  .one .php, .one .oraImmediate, .one .aslAccumulator, .one .illegal0B,
  .one .illegal0C, .one .oraAbsolute, .three .aslAbsolute, .one .illegal0F]

/-- Row 1x of the opcode map (R84). -/
def opcodeRow1 : Vector Row 16 := #v[
  .relative .bpl, .one .oraIndirectY, .one .illegal12, .one .illegal13,
  .one .illegal14, .one .oraZeroPageX, .two .aslZeroPageX, .one .illegal17,
  .one .clc, .one .oraAbsoluteY, .one .illegal1A, .one .illegal1B,
  .one .illegal1C, .one .oraAbsoluteX, .three .aslAbsoluteX, .one .illegal1F]

/-- Row 2x of the opcode map (R84). -/
def opcodeRow2 : Vector Row 16 := #v[
  .one .jsr, .two .andIndirectX, .one .illegal22, .one .illegal23,
  .one .bitZeroPage, .two .andZeroPage, .one .rolZeroPage, .one .illegal27,
  .one .plp, .two .andImmediate, .one .rolAccumulator, .one .illegal2B,
  .one .bitAbsolute, .three .andAbsolute, .one .rolAbsolute, .one .illegal2F]

/-- Row 3x of the opcode map (R84). -/
def opcodeRow3 : Vector Row 16 := #v[
  .relative .bmi, .two .andIndirectY, .one .illegal32, .one .illegal33,
  .one .illegal34, .two .andZeroPageX, .one .rolZeroPageX, .one .illegal37,
  .one .sec, .three .andAbsoluteY, .one .illegal3A, .one .illegal3B,
  .one .illegal3C, .three .andAbsoluteX, .one .rolAbsoluteX, .one .illegal3F]

/-- Row 4x of the opcode map (R84). -/
def opcodeRow4 : Vector Row 16 := #v[
  .one .rti, .one .eorIndirectX, .one .illegal42, .one .illegal43,
  .one .illegal44, .one .eorZeroPage, .one .lsrZeroPage, .one .illegal47,
  .one .pha, .one .eorImmediate, .one .lsrAccumulator, .one .illegal4B,
  .one .jmpAbsolute, .one .eorAbsolute, .one .lsrAbsolute, .one .illegal4F]

/-- Row 5x of the opcode map (R84). -/
def opcodeRow5 : Vector Row 16 := #v[
  .relative .bvc, .one .eorIndirectY, .one .illegal52, .one .illegal53,
  .one .illegal54, .one .eorZeroPageX, .one .lsrZeroPageX, .one .illegal57,
  .one .cli, .one .eorAbsoluteY, .one .illegal5A, .one .illegal5B,
  .one .illegal5C, .one .eorAbsoluteX, .one .lsrAbsoluteX, .one .illegal5F]

/-- Row 6x of the opcode map (R84). -/
def opcodeRow6 : Vector Row 16 := #v[
  .one .rts, .two .adcIndirectX, .one .illegal62, .one .illegal63,
  .one .illegal64, .two .adcZeroPage, .one .rorZeroPage, .one .illegal67,
  .one .pla, .two .adcImmediate, .one .rorAccumulator, .one .illegal6B,
  .one .jmpIndirect, .three .adcAbsolute, .one .rorAbsolute, .one .illegal6F]

/-- Row 7x of the opcode map (R84). -/
def opcodeRow7 : Vector Row 16 := #v[
  .relative .bvs, .two .adcIndirectY, .one .illegal72, .one .illegal73,
  .one .illegal74, .two .adcZeroPageX, .one .rorZeroPageX, .one .illegal77,
  .one .sei, .three .adcAbsoluteY, .one .illegal7A, .one .illegal7B,
  .one .illegal7C, .three .adcAbsoluteX, .one .rorAbsoluteX, .one .illegal7F]

/-- Row 8x of the opcode map (R84). -/
def opcodeRow8 : Vector Row 16 := #v[
  .one .illegal80, .two .staIndirectX, .one .illegal82, .one .illegal83,
  .two .styZeroPage, .two .staZeroPage, .two .stxZeroPage, .one .illegal87,
  .one .dey, .one .illegal89, .one .txa, .one .illegal8B,
  .three .styAbsolute, .three .staAbsolute, .three .stxAbsolute, .one .illegal8F]

/-- Row 9x of the opcode map (R84). -/
def opcodeRow9 : Vector Row 16 := #v[
  .relative .bcc, .two .staIndirectY, .one .illegal92, .one .illegal93,
  .two .styZeroPageX, .two .staZeroPageX, .two .stxZeroPageY, .one .illegal97,
  .one .tya, .three .staAbsoluteY, .one .txs, .one .illegal9B,
  .one .illegal9C, .three .staAbsoluteX, .one .illegal9E, .one .illegal9F]

/-- Row Ax of the opcode map (R84). -/
def opcodeRowA : Vector Row 16 := #v[
  .one .ldyImmediate, .two .ldaIndirectX, .one .ldxImmediate, .one .illegalA3,
  .one .ldyZeroPage, .two .ldaZeroPage, .one .ldxZeroPage, .one .illegalA7,
  .one .tay, .two .ldaImmediate, .one .tax, .one .illegalAB,
  .one .ldyAbsolute, .three .ldaAbsolute, .one .ldxAbsolute, .one .illegalAF]

/-- Row Bx of the opcode map (R84). -/
def opcodeRowB : Vector Row 16 := #v[
  .relative .bcs, .two .ldaIndirectY, .one .illegalB2, .one .illegalB3,
  .one .ldyZeroPageX, .two .ldaZeroPageX, .one .ldxZeroPageY, .one .illegalB7,
  .one .clv, .three .ldaAbsoluteY, .one .tsx, .one .illegalBB,
  .one .ldyAbsoluteX, .three .ldaAbsoluteX, .one .ldxAbsoluteY, .one .illegalBF]

/-- Row Cx of the opcode map (R84). -/
def opcodeRowC : Vector Row 16 := #v[
  .one .cpyImmediate, .one .cmpIndirectX, .one .illegalC2, .one .illegalC3,
  .one .cpyZeroPage, .one .cmpZeroPage, .one .decZeroPage, .one .illegalC7,
  .one .iny, .one .cmpImmediate, .one .dex, .one .illegalCB,
  .one .cpyAbsolute, .one .cmpAbsolute, .one .decAbsolute, .one .illegalCF]

/-- Row Dx of the opcode map (R84). -/
def opcodeRowD : Vector Row 16 := #v[
  .relative .bne, .one .cmpIndirectY, .one .illegalD2, .one .illegalD3,
  .one .illegalD4, .one .cmpZeroPageX, .one .decZeroPageX, .one .illegalD7,
  .one .cld, .one .cmpAbsoluteY, .one .illegalDA, .one .illegalDB,
  .one .illegalDC, .one .cmpAbsoluteX, .one .decAbsoluteX, .one .illegalDF]

/-- Row Ex of the opcode map (R84). -/
def opcodeRowE : Vector Row 16 := #v[
  .one .cpxImmediate, .one .sbcIndirectX, .one .illegalE2, .one .illegalE3,
  .one .cpxZeroPage, .one .sbcZeroPage, .one .incZeroPage, .one .illegalE7,
  .one .inx, .one .sbcImmediate, .one .nop, .one .illegalEB,
  .one .cpxAbsolute, .one .sbcAbsolute, .one .incAbsolute, .one .illegalEF]

/-- Row Fx of the opcode map (R84). -/
def opcodeRowF : Vector Row 16 := #v[
  .relative .beq, .one .sbcIndirectY, .one .illegalF2, .one .illegalF3,
  .one .illegalF4, .one .sbcZeroPageX, .one .incZeroPageX, .one .illegalF7,
  .one .sed, .one .sbcAbsoluteY, .one .illegalFA, .one .illegalFB,
  .one .illegalFC, .one .sbcAbsoluteX, .one .incAbsoluteX, .one .illegalFF]

/-- The opcode map (R84): rows by high nibble, columns by low nibble. -/
def opcodeMap : Vector (Vector Row 16) 16 := #v[
  opcodeRow0, opcodeRow1, opcodeRow2, opcodeRow3, opcodeRow4, opcodeRow5, opcodeRow6, opcodeRow7,
  opcodeRow8, opcodeRow9, opcodeRowA, opcodeRowB, opcodeRowC, opcodeRowD, opcodeRowE, opcodeRowF]

/-- The opcode byte's high nibble, the map's row. -/
def highNibble (op : Byte) : Fin 16 := ⟨op.toNat / 16, by have := op.isLt; omega⟩

/-- The opcode byte's low nibble, the map's column. -/
def lowNibble (op : Byte) : Fin 16 := ⟨op.toNat % 16, by omega⟩

/-- The decoder's lookup, "an O(1) lookup" (R80). -/
def opcodeRow (op : Byte) : Row := opcodeMap[highNibble op][lowNibble op]

/-- The number of operand bytes a row waits for (R81). -/
def Row.operandLength : Row → Nat
  | .one _ => 0
  | .two _ => 1
  | .relative _ => 1
  | .three _ => 2

/-- The row's instruction, with the two bytes that follow the opcode at hand (R82). -/
def Row.build (b1 b2 : Byte) : Row → Instr
  | .one i => i
  | .two k => k b1
  | .relative k => k (displacementOf b1)
  | .three k => k (wordOf b2 b1)

/-- The instruction whose opcode byte is op and whose following bytes are b1 and b2. "Decoding never fails" (R80). -/
def decodeAt (op b1 b2 : Byte) : Instr := (opcodeRow op).build b1 b2

/-- Why a list of bytes holds no whole instruction. The core never meets either: memory is never short of bytes (A16). -/
inductive DecodeError where
  /-- There is no opcode byte. -/
  | noOpcode
  /-- Fewer bytes follow the opcode than its mode needs. -/
  | missingOperand (present needed : Nat)
  deriving DecidableEq, Repr

/-- Take a row's operand bytes from the bytes after the opcode (R82). -/
def Row.take : Row → List Byte → Except DecodeError (Instr × List Byte)
  | .one i, rest => .ok (i, rest)
  | .two k, b1 :: rest => .ok (k b1, rest)
  | .two _, [] => .error (.missingOperand 0 1)
  | .relative k, b1 :: rest => .ok (k (displacementOf b1), rest)
  | .relative _, [] => .error (.missingOperand 0 1)
  | .three k, b1 :: b2 :: rest => .ok (k (wordOf b2 b1), rest)
  | .three _, [_] => .error (.missingOperand 1 2)
  | .three _, [] => .error (.missingOperand 0 2)

/-- The first instruction of a list of bytes, and the bytes after it (R81, R89). -/
def decode : List Byte → Except DecodeError (Instr × List Byte)
  | [] => .error .noOpcode
  | op :: rest => (opcodeRow op).take rest

/-- Byte k of an instruction given as a number, bit 0 the least significant bit of its first byte. -/
def tableByte (nbits w k : Nat) : Byte := BitVec.ofNat 8 ((w % 2 ^ nbits) >>> (8 * k))

/-- What the decoder reads from a table word: its first nbits bits, and operand bytes of zeros above them. -/
def decodeTableWord (nbits w : Nat) : Option Instr :=
  match decode [tableByte nbits w 0, tableByte nbits w 1, tableByte nbits w 2] with
  | .ok (i, _) => some i
  | .error _ => none

/-- The opcode byte of each row (R83, R86, R87). -/
def opcodeOf : Instr → Byte
  | .brk => 0x00
  | .oraIndirectX => 0x01
  | .illegal02 => 0x02
  | .illegal03 => 0x03
  | .illegal04 => 0x04
  | .oraZeroPage => 0x05
  | .aslZeroPage _ => 0x06
  | .illegal07 => 0x07
  | .php => 0x08
  | .oraImmediate => 0x09
  | .aslAccumulator => 0x0A
  | .illegal0B => 0x0B
  | .illegal0C => 0x0C
  | .oraAbsolute => 0x0D
  | .aslAbsolute _ => 0x0E
  | .illegal0F => 0x0F
  | .bpl _ => 0x10
  | .oraIndirectY => 0x11
  | .illegal12 => 0x12
  | .illegal13 => 0x13
  | .illegal14 => 0x14
  | .oraZeroPageX => 0x15
  | .aslZeroPageX _ => 0x16
  | .illegal17 => 0x17
  | .clc => 0x18
  | .oraAbsoluteY => 0x19
  | .illegal1A => 0x1A
  | .illegal1B => 0x1B
  | .illegal1C => 0x1C
  | .oraAbsoluteX => 0x1D
  | .aslAbsoluteX _ => 0x1E
  | .illegal1F => 0x1F
  | .jsr => 0x20
  | .andIndirectX _ => 0x21
  | .illegal22 => 0x22
  | .illegal23 => 0x23
  | .bitZeroPage => 0x24
  | .andZeroPage _ => 0x25
  | .rolZeroPage => 0x26
  | .illegal27 => 0x27
  | .plp => 0x28
  | .andImmediate _ => 0x29
  | .rolAccumulator => 0x2A
  | .illegal2B => 0x2B
  | .bitAbsolute => 0x2C
  | .andAbsolute _ => 0x2D
  | .rolAbsolute => 0x2E
  | .illegal2F => 0x2F
  | .bmi _ => 0x30
  | .andIndirectY _ => 0x31
  | .illegal32 => 0x32
  | .illegal33 => 0x33
  | .illegal34 => 0x34
  | .andZeroPageX _ => 0x35
  | .rolZeroPageX => 0x36
  | .illegal37 => 0x37
  | .sec => 0x38
  | .andAbsoluteY _ => 0x39
  | .illegal3A => 0x3A
  | .illegal3B => 0x3B
  | .illegal3C => 0x3C
  | .andAbsoluteX _ => 0x3D
  | .rolAbsoluteX => 0x3E
  | .illegal3F => 0x3F
  | .rti => 0x40
  | .eorIndirectX => 0x41
  | .illegal42 => 0x42
  | .illegal43 => 0x43
  | .illegal44 => 0x44
  | .eorZeroPage => 0x45
  | .lsrZeroPage => 0x46
  | .illegal47 => 0x47
  | .pha => 0x48
  | .eorImmediate => 0x49
  | .lsrAccumulator => 0x4A
  | .illegal4B => 0x4B
  | .jmpAbsolute => 0x4C
  | .eorAbsolute => 0x4D
  | .lsrAbsolute => 0x4E
  | .illegal4F => 0x4F
  | .bvc _ => 0x50
  | .eorIndirectY => 0x51
  | .illegal52 => 0x52
  | .illegal53 => 0x53
  | .illegal54 => 0x54
  | .eorZeroPageX => 0x55
  | .lsrZeroPageX => 0x56
  | .illegal57 => 0x57
  | .cli => 0x58
  | .eorAbsoluteY => 0x59
  | .illegal5A => 0x5A
  | .illegal5B => 0x5B
  | .illegal5C => 0x5C
  | .eorAbsoluteX => 0x5D
  | .lsrAbsoluteX => 0x5E
  | .illegal5F => 0x5F
  | .rts => 0x60
  | .adcIndirectX _ => 0x61
  | .illegal62 => 0x62
  | .illegal63 => 0x63
  | .illegal64 => 0x64
  | .adcZeroPage _ => 0x65
  | .rorZeroPage => 0x66
  | .illegal67 => 0x67
  | .pla => 0x68
  | .adcImmediate _ => 0x69
  | .rorAccumulator => 0x6A
  | .illegal6B => 0x6B
  | .jmpIndirect => 0x6C
  | .adcAbsolute _ => 0x6D
  | .rorAbsolute => 0x6E
  | .illegal6F => 0x6F
  | .bvs _ => 0x70
  | .adcIndirectY _ => 0x71
  | .illegal72 => 0x72
  | .illegal73 => 0x73
  | .illegal74 => 0x74
  | .adcZeroPageX _ => 0x75
  | .rorZeroPageX => 0x76
  | .illegal77 => 0x77
  | .sei => 0x78
  | .adcAbsoluteY _ => 0x79
  | .illegal7A => 0x7A
  | .illegal7B => 0x7B
  | .illegal7C => 0x7C
  | .adcAbsoluteX _ => 0x7D
  | .rorAbsoluteX => 0x7E
  | .illegal7F => 0x7F
  | .illegal80 => 0x80
  | .staIndirectX _ => 0x81
  | .illegal82 => 0x82
  | .illegal83 => 0x83
  | .styZeroPage _ => 0x84
  | .staZeroPage _ => 0x85
  | .stxZeroPage _ => 0x86
  | .illegal87 => 0x87
  | .dey => 0x88
  | .illegal89 => 0x89
  | .txa => 0x8A
  | .illegal8B => 0x8B
  | .styAbsolute _ => 0x8C
  | .staAbsolute _ => 0x8D
  | .stxAbsolute _ => 0x8E
  | .illegal8F => 0x8F
  | .bcc _ => 0x90
  | .staIndirectY _ => 0x91
  | .illegal92 => 0x92
  | .illegal93 => 0x93
  | .styZeroPageX _ => 0x94
  | .staZeroPageX _ => 0x95
  | .stxZeroPageY _ => 0x96
  | .illegal97 => 0x97
  | .tya => 0x98
  | .staAbsoluteY _ => 0x99
  | .txs => 0x9A
  | .illegal9B => 0x9B
  | .illegal9C => 0x9C
  | .staAbsoluteX _ => 0x9D
  | .illegal9E => 0x9E
  | .illegal9F => 0x9F
  | .ldyImmediate => 0xA0
  | .ldaIndirectX _ => 0xA1
  | .ldxImmediate => 0xA2
  | .illegalA3 => 0xA3
  | .ldyZeroPage => 0xA4
  | .ldaZeroPage _ => 0xA5
  | .ldxZeroPage => 0xA6
  | .illegalA7 => 0xA7
  | .tay => 0xA8
  | .ldaImmediate _ => 0xA9
  | .tax => 0xAA
  | .illegalAB => 0xAB
  | .ldyAbsolute => 0xAC
  | .ldaAbsolute _ => 0xAD
  | .ldxAbsolute => 0xAE
  | .illegalAF => 0xAF
  | .bcs _ => 0xB0
  | .ldaIndirectY _ => 0xB1
  | .illegalB2 => 0xB2
  | .illegalB3 => 0xB3
  | .ldyZeroPageX => 0xB4
  | .ldaZeroPageX _ => 0xB5
  | .ldxZeroPageY => 0xB6
  | .illegalB7 => 0xB7
  | .clv => 0xB8
  | .ldaAbsoluteY _ => 0xB9
  | .tsx => 0xBA
  | .illegalBB => 0xBB
  | .ldyAbsoluteX => 0xBC
  | .ldaAbsoluteX _ => 0xBD
  | .ldxAbsoluteY => 0xBE
  | .illegalBF => 0xBF
  | .cpyImmediate => 0xC0
  | .cmpIndirectX => 0xC1
  | .illegalC2 => 0xC2
  | .illegalC3 => 0xC3
  | .cpyZeroPage => 0xC4
  | .cmpZeroPage => 0xC5
  | .decZeroPage => 0xC6
  | .illegalC7 => 0xC7
  | .iny => 0xC8
  | .cmpImmediate => 0xC9
  | .dex => 0xCA
  | .illegalCB => 0xCB
  | .cpyAbsolute => 0xCC
  | .cmpAbsolute => 0xCD
  | .decAbsolute => 0xCE
  | .illegalCF => 0xCF
  | .bne _ => 0xD0
  | .cmpIndirectY => 0xD1
  | .illegalD2 => 0xD2
  | .illegalD3 => 0xD3
  | .illegalD4 => 0xD4
  | .cmpZeroPageX => 0xD5
  | .decZeroPageX => 0xD6
  | .illegalD7 => 0xD7
  | .cld => 0xD8
  | .cmpAbsoluteY => 0xD9
  | .illegalDA => 0xDA
  | .illegalDB => 0xDB
  | .illegalDC => 0xDC
  | .cmpAbsoluteX => 0xDD
  | .decAbsoluteX => 0xDE
  | .illegalDF => 0xDF
  | .cpxImmediate => 0xE0
  | .sbcIndirectX => 0xE1
  | .illegalE2 => 0xE2
  | .illegalE3 => 0xE3
  | .cpxZeroPage => 0xE4
  | .sbcZeroPage => 0xE5
  | .incZeroPage => 0xE6
  | .illegalE7 => 0xE7
  | .inx => 0xE8
  | .sbcImmediate => 0xE9
  | .nop => 0xEA
  | .illegalEB => 0xEB
  | .cpxAbsolute => 0xEC
  | .sbcAbsolute => 0xED
  | .incAbsolute => 0xEE
  | .illegalEF => 0xEF
  | .beq _ => 0xF0
  | .sbcIndirectY => 0xF1
  | .illegalF2 => 0xF2
  | .illegalF3 => 0xF3
  | .illegalF4 => 0xF4
  | .sbcZeroPageX => 0xF5
  | .incZeroPageX => 0xF6
  | .illegalF7 => 0xF7
  | .sed => 0xF8
  | .sbcAbsoluteY => 0xF9
  | .illegalFA => 0xFA
  | .illegalFB => 0xFB
  | .illegalFC => 0xFC
  | .sbcAbsoluteX => 0xFD
  | .incAbsoluteX => 0xFE
  | .illegalFF => 0xFF

/-- The operand bytes of a memory operand, a 16-bit operand low byte first (R81, R82). -/
def MemOperand.bytes : MemOperand → List Byte
  | .zeroPage a => [a]
  | .zeroPageX a => [a]
  | .zeroPageY a => [a]
  | .absolute w => [lowByte w, highByte w]
  | .absoluteX w => [lowByte w, highByte w]
  | .absoluteY w => [lowByte w, highByte w]
  | .indirect w => [lowByte w, highByte w]
  | .indirectX p => [p]
  | .indirectY p => [p]

/-- The operand bytes of a source operand (R82). -/
def Source.bytes : Source → List Byte
  | .immediate v => [v]
  | .memory m => m.bytes

/-- The operand bytes of an operation (R82). -/
def Operation.operandBytes : Operation → List Byte
  | .lda src => src.bytes
  | .and src => src.bytes
  | .adc src => src.bytes
  | .sta dst => dst.bytes
  | .stx dst => dst.bytes
  | .sty dst => dst.bytes
  | .aslA => []
  | .asl dst => dst.bytes
  | .tax => []
  | .tay => []
  | .inx => []
  | .iny => []
  | .branch _ d => [displacementByte d]
  | .brk => []
  | .unimplemented _ => []
  | .illegal => []

/-- The bytes of an instruction: the opcode byte, then the operand bytes (R81). -/
def encode (i : Instr) : List Byte := opcodeOf i :: i.operation.operandBytes

end Sys2Proof
end

