-- ==== Sys2Proof/Machine/Ops.lean ====
section
/-! DEFINITION. The operations on memory and registers (20_memory.md, 00_scope.md R13), the advance of the PC
(40_execution_cycle.md R111, R119), raising a fault (R14, R229) and the return from one, which is reset (R250). -/

namespace Sys2Proof.Machine

/-- The byte at a key: the first cell listed under it, else what an unlisted address reads as. -/
def Memory.cellAt : Memory → Nat → Byte
  | [], _ => memoryDefault
  | (k, v) :: m, a => if k = a then v else Memory.cellAt m a

/-- The list with v at key a, in canonical form: a cell that would hold the default is not listed. -/
def Memory.setCell : Memory → Nat → Byte → Memory
  | [], a, v => if v = memoryDefault then [] else [(a, v)]
  | (k, b) :: m, a, v =>
    if a < k then
      if v = memoryDefault then (k, b) :: m else (a, v) :: (k, b) :: m
    else if a = k then
      if v = memoryDefault then m else (a, v) :: m
    else (k, b) :: Memory.setCell m a v

/-- `MemRead(addr, 1)` (R51): never fails. -/
def Memory.read (m : Memory) (a : Address) : Byte := m.cellAt a.toNat

/-- `MemWrite(addr, 1, v)` (R52): never fails. -/
def Memory.write (m : Memory) (a : Address) (v : Byte) : Memory := m.setCell a.toNat v

/-- `MemRead(addr, 2)` (R13, R53): little-endian, wrapping at the top of the space. -/
def Memory.read16 (m : Memory) (a : Address) : Address := wordOf (m.read (a + 1)) (m.read a)

/-- `MemWrite(addr, 2, w)` (R13, R54): low byte at addr, high byte at addr + 1, wrapping. -/
def Memory.write16 (m : Memory) (a w : Address) : Memory := (m.write a (lowByte w)).write (a + 1) (highByte w)

/-- `zext_16(b)` (R11). -/
def zext16 (b : Byte) : Address := b.setWidth 16

/-- `sext_16(d)` (R11) of a displacement. -/
def sext16 (d : Int) : Address := BitVec.ofInt 16 d

/-- The address of a zero-page pointer's high byte, with `ZP_POINTER_WRAP` as an argument (R9, 92 D6). -/
def zpPointerHigh (wrap : Bool) (p : Byte) : Address := if wrap then zext16 (p + 1) else zext16 p + 1

/-- `ZpRead16(p)` with `ZP_POINTER_WRAP` as an argument (R13, 92 D6). -/
def Memory.zpRead16With (wrap : Bool) (m : Memory) (p : Byte) : Address :=
  wordOf (m.read (zpPointerHigh wrap p)) (m.read (zext16 p))

/-- `ZpRead16(p)` (R13). -/
def Memory.zpRead16 (m : Memory) (p : Byte) : Address := m.zpRead16With Config.zpPointerWrap p

/-- Store a list of bytes at rising addresses. -/
def Memory.writeBytes : Memory → Address → List Byte → Memory
  | m, _, [] => m
  | m, a, b :: bs => (m.write a b).writeBytes (a + 1) bs

/-- `A <- v` (R12). -/
def State.setA (s : State) (v : Byte) : State := { s with a := v }

/-- `X <- v` (R12). -/
def State.setX (s : State) (v : Byte) : State := { s with x := v }

/-- `Y <- v` (R12). -/
def State.setY (s : State) (v : Byte) : State := { s with y := v }

/-- `P <- p` (R12). -/
def State.setP (s : State) (p : Flags) : State := { s with p := p }

/-- `PC <- v` (R12). -/
def State.setPc (s : State) (v : Address) : State := { s with pc := v }

/-- `state <- r` (R12). -/
def State.setRunState (s : State) (r : RunState) : State := { s with runState := r }

/-- Replace the memory. -/
def State.setMem (s : State) (m : Memory) : State := { s with mem := m }

/-- `MemWrite(ea, 1, v)` (R12, R52). -/
def State.store (s : State) (ea : Address) (v : Byte) : State := s.setMem (s.mem.write ea v)

/-- `pc1`, the PC after the opcode fetch (R111). -/
def State.pc1 (s : State) : Address := s.pc + 1

/-- The PC after the opcode fetch and the operand-length advance: (pc0 + 1 + len) mod 65536 (R119). -/
def State.advance (s : State) (len : Nat) : State := s.setPc (s.pc1 + BitVec.ofNat 16 len)

/-- Take a branch: the target counts from the address after the operand byte, (pc0 + 2 + sext_16(d)) mod 65536 (R201). -/
def State.branchTo (s : State) (d : Int) : State := s.setPc (s.pc1 + sext16 d + 1)

/-- `halt` (R14, R210): the run state and the PC of the opcode fetch are written, nothing else (R112). -/
def State.halt (s : State) : State := (s.setRunState .halted).setPc s.pc1

/-- `raise Fault(reason)` (R14, R229): taking an exception. The run state and the PC of the opcode fetch are written, and no
register, flag or memory cell; nothing vectors and nothing is saved (R228). -/
def State.raiseFault (s : State) (r : FaultReason) : State := (s.setRunState (.faulted r)).setPc s.pc1

/-- The host's `reset` (R250), which is also the only way out of a fault or a halt (R230, R253). Memory is not changed. -/
def State.hostReset (s : State) : State :=
  { pc := s.mem.read16 Config.resetVector
    sp := 0, a := 0, x := 0, y := 0
    p := Flags.clear
    runState := .running
    mem := s.mem }

/-- The fault codes of R220 (92 D27). -/
def FaultReason.code : FaultReason → Nat
  | .invalidInstruction => 1
  | .unimplemented => 2

/-- The loader's error has the next code (R220, 92 D27). -/
def Fault.code : Fault → Nat
  | .outOfBounds => 3

end Sys2Proof.Machine
end

