-- ==== Sys2Proof/Machine/Operands.lean ====
section
/-! DEFINITION. The addressing-mode resolver (40_execution_cycle.md R120 to R133), twice: `resolve`, word for word as the spec
has it, reading the operand bytes from memory at pc1; and `MemOperand.ea`, on the operand bytes that decoding has already put
into the instruction (A3). -/

namespace Sys2Proof.Machine

/-- `resolve(mode, registers, bus)` (R120): pc1 is the PC after the opcode fetch; Implied and Accumulator have no EA (R131). -/
def resolve (mode : Mode) (pc1 : Address) (x y : Byte) (m : Memory) : Option Address :=
  match mode with
  | .implied => none
  | .accumulator => none
  | .immediate => some pc1
  | .zeroPage => some (zext16 (m.read pc1))
  | .zeroPageX => some (zext16 (m.read pc1 + x))
  | .zeroPageY => some (zext16 (m.read pc1 + y))
  | .absolute => some (m.read16 pc1)
  | .absoluteX => some (m.read16 pc1 + zext16 x)
  | .absoluteY => some (m.read16 pc1 + zext16 y)
  | .indirect => some (m.read16 (m.read16 pc1))
  | .indirectX => some (m.zpRead16 (m.read pc1 + x))
  | .indirectY => some (m.zpRead16 (m.read pc1) + zext16 y)
  | .relative => some pc1

/-- The effective address of a memory operand in a state (R122 to R130). -/
def ea (o : MemOperand) (s : State) : Address :=
  match o with
  | .zeroPage a => zext16 a
  | .zeroPageX a => zext16 (a + s.x)
  | .zeroPageY a => zext16 (a + s.y)
  | .absolute w => w
  | .absoluteX w => w + zext16 s.x
  | .absoluteY w => w + zext16 s.y
  | .indirect w => s.mem.read16 w
  | .indirectX p => s.mem.zpRead16 (p + s.x)
  | .indirectY p => s.mem.zpRead16 p + zext16 s.y

/-- The byte a memory operand holds (R133). -/
def loadByte (o : MemOperand) (s : State) : Byte := s.mem.read (ea o s)

/-- The value of a source operand (R121, R133). -/
def sourceValue (src : Source) (s : State) : Byte :=
  match src with
  | .immediate v => v
  | .memory o => loadByte o s

/-- The PC advance of an operand: the operand length of its mode (R119). -/
def advancePast (mode : Mode) (s : State) : State := s.advance mode.operandLength

/-- The effective address of an operation, where its mode has one (R131): the operand's own position for Immediate and
Relative (R121, R132). -/
def effectiveAddress (o : Operation) (s : State) : Option Address :=
  match o with
  | .lda (.immediate _) => some s.pc1
  | .lda (.memory m) => some (ea m s)
  | .and (.immediate _) => some s.pc1
  | .and (.memory m) => some (ea m s)
  | .adc (.immediate _) => some s.pc1
  | .adc (.memory m) => some (ea m s)
  | .sta m => some (ea m s)
  | .stx m => some (ea m s)
  | .sty m => some (ea m s)
  | .aslA => none
  | .asl m => some (ea m s)
  | .tax => none
  | .tay => none
  | .inx => none
  | .iny => none
  | .branch _ _ => some s.pc1
  | .brk => none
  | .unimplemented _ => none
  | .illegal => none

end Sys2Proof.Machine
end

