-- ==== Sys2Proof/Machine/Add.lean ====
section
/-! DEFINITION. ADC in its eight modes (42_alu.md R180 to R186). -/

namespace Sys2Proof.Machine

/-- ADC (R180): the 9-bit sum of A, the operand and P.C; binary whatever P.D holds (R186). -/
def addA (src : Source) (s : State) : Host.Outcome State Fault Refusal :=
  let m := sourceValue src s
  .next (advancePast src.mode ((s.setA (adc8 s.a m s.p.c)).setP (s.p.afterAdd s.a m)))

/-- 0x61 ADC IndirectX (R180). -/
def execAdcIndirectX (ptr : Byte) (s : State) : Host.Outcome State Fault Refusal := addA (.memory (.indirectX ptr)) s

/-- 0x65 ADC ZeroPage (R180). -/
def execAdcZeroPage (addr : Byte) (s : State) : Host.Outcome State Fault Refusal := addA (.memory (.zeroPage addr)) s

/-- 0x69 ADC Immediate (R180). -/
def execAdcImmediate (v : Byte) (s : State) : Host.Outcome State Fault Refusal := addA (.immediate v) s

/-- 0x6D ADC Absolute (R180). -/
def execAdcAbsolute (addr : Address) (s : State) : Host.Outcome State Fault Refusal := addA (.memory (.absolute addr)) s

/-- 0x71 ADC IndirectY (R180). -/
def execAdcIndirectY (ptr : Byte) (s : State) : Host.Outcome State Fault Refusal := addA (.memory (.indirectY ptr)) s

/-- 0x75 ADC ZeroPageX (R180). -/
def execAdcZeroPageX (addr : Byte) (s : State) : Host.Outcome State Fault Refusal := addA (.memory (.zeroPageX addr)) s

/-- 0x79 ADC AbsoluteY (R180). -/
def execAdcAbsoluteY (addr : Address) (s : State) : Host.Outcome State Fault Refusal := addA (.memory (.absoluteY addr)) s

/-- 0x7D ADC AbsoluteX (R180). -/
def execAdcAbsoluteX (addr : Address) (s : State) : Host.Outcome State Fault Refusal := addA (.memory (.absoluteX addr)) s

end Sys2Proof.Machine
end

