-- ==== Sys2Proof/Machine/Branch.lean ====
section
/-! DEFINITION. The eight conditional branches (43_control_flow.md R201 to R209). -/

namespace Sys2Proof.Machine

/-- A relative branch (R201): `if cond(P): PC <- (PC + sext_16(d)) mod 65536`, then the operand-length advance. -/
def branch (c : Condition) (d : Int) (s : State) : Host.Outcome State Fault Refusal :=
  .next (if conditionHolds s.p c then s.branchTo d else advancePast .relative s)

/-- 0x10 BPL Relative (R206). -/
def execBpl (d : Int) (s : State) : Host.Outcome State Fault Refusal := branch .pl d s

/-- 0x30 BMI Relative (R207). -/
def execBmi (d : Int) (s : State) : Host.Outcome State Fault Refusal := branch .mi d s

/-- 0x50 BVC Relative (R208). -/
def execBvc (d : Int) (s : State) : Host.Outcome State Fault Refusal := branch .vc d s

/-- 0x70 BVS Relative (R209). -/
def execBvs (d : Int) (s : State) : Host.Outcome State Fault Refusal := branch .vs d s

/-- 0x90 BCC Relative (R202). -/
def execBcc (d : Int) (s : State) : Host.Outcome State Fault Refusal := branch .cc d s

/-- 0xB0 BCS Relative (R203). -/
def execBcs (d : Int) (s : State) : Host.Outcome State Fault Refusal := branch .cs d s

/-- 0xD0 BNE Relative (R204). -/
def execBne (d : Int) (s : State) : Host.Outcome State Fault Refusal := branch .ne d s

/-- 0xF0 BEQ Relative (R205). -/
def execBeq (d : Int) (s : State) : Host.Outcome State Fault Refusal := branch .eq d s

end Sys2Proof.Machine
end

