-- ==== Sys2Proof/Machine/Halt.lean ====
section
/-! DEFINITION. BRK, the halt opcode (43_control_flow.md R210). -/

namespace Sys2Proof.Machine

/-- 0x00 BRK Implied (R210). -/
def execBrk (s : State) : Host.Outcome State Fault Refusal := .next s.halt

end Sys2Proof.Machine
end

