-- ==== Sys2Proof/Machine/Illegal.lean ====
section
/-! DEFINITION. The 105 illegal opcodes (30_encoding.md R87): each raises Fault(InvalidInstruction) (60_exceptions.md R223). Each byte has a meaning of its own. -/

namespace Sys2Proof.Machine

/-- Dispatching `Illegal` (R111, R223, R229). -/
def raiseInvalid (s : State) : Host.Outcome State Fault Refusal := .next (s.raiseFault .invalidInstruction)

/-- 0x02 (R223). -/
def execIllegal02 (s : State) : Host.Outcome State Fault Refusal := raiseInvalid s

/-- 0x03 (R223). -/
def execIllegal03 (s : State) : Host.Outcome State Fault Refusal := raiseInvalid s

/-- 0x04 (R223). -/
def execIllegal04 (s : State) : Host.Outcome State Fault Refusal := raiseInvalid s

/-- 0x07 (R223). -/
def execIllegal07 (s : State) : Host.Outcome State Fault Refusal := raiseInvalid s

/-- 0x0B (R223). -/
def execIllegal0B (s : State) : Host.Outcome State Fault Refusal := raiseInvalid s

/-- 0x0C (R223). -/
def execIllegal0C (s : State) : Host.Outcome State Fault Refusal := raiseInvalid s

/-- 0x0F (R223). -/
def execIllegal0F (s : State) : Host.Outcome State Fault Refusal := raiseInvalid s

/-- 0x12 (R223). -/
def execIllegal12 (s : State) : Host.Outcome State Fault Refusal := raiseInvalid s

/-- 0x13 (R223). -/
def execIllegal13 (s : State) : Host.Outcome State Fault Refusal := raiseInvalid s

/-- 0x14 (R223). -/
def execIllegal14 (s : State) : Host.Outcome State Fault Refusal := raiseInvalid s

/-- 0x17 (R223). -/
def execIllegal17 (s : State) : Host.Outcome State Fault Refusal := raiseInvalid s

/-- 0x1A (R223). -/
def execIllegal1A (s : State) : Host.Outcome State Fault Refusal := raiseInvalid s

/-- 0x1B (R223). -/
def execIllegal1B (s : State) : Host.Outcome State Fault Refusal := raiseInvalid s

/-- 0x1C (R223). -/
def execIllegal1C (s : State) : Host.Outcome State Fault Refusal := raiseInvalid s

/-- 0x1F (R223). -/
def execIllegal1F (s : State) : Host.Outcome State Fault Refusal := raiseInvalid s

/-- 0x22 (R223). -/
def execIllegal22 (s : State) : Host.Outcome State Fault Refusal := raiseInvalid s

/-- 0x23 (R223). -/
def execIllegal23 (s : State) : Host.Outcome State Fault Refusal := raiseInvalid s

/-- 0x27 (R223). -/
def execIllegal27 (s : State) : Host.Outcome State Fault Refusal := raiseInvalid s

/-- 0x2B (R223). -/
def execIllegal2B (s : State) : Host.Outcome State Fault Refusal := raiseInvalid s

/-- 0x2F (R223). -/
def execIllegal2F (s : State) : Host.Outcome State Fault Refusal := raiseInvalid s

/-- 0x32 (R223). -/
def execIllegal32 (s : State) : Host.Outcome State Fault Refusal := raiseInvalid s

/-- 0x33 (R223). -/
def execIllegal33 (s : State) : Host.Outcome State Fault Refusal := raiseInvalid s

/-- 0x34 (R223). -/
def execIllegal34 (s : State) : Host.Outcome State Fault Refusal := raiseInvalid s

/-- 0x37 (R223). -/
def execIllegal37 (s : State) : Host.Outcome State Fault Refusal := raiseInvalid s

/-- 0x3A (R223). -/
def execIllegal3A (s : State) : Host.Outcome State Fault Refusal := raiseInvalid s

/-- 0x3B (R223). -/
def execIllegal3B (s : State) : Host.Outcome State Fault Refusal := raiseInvalid s

/-- 0x3C (R223). -/
def execIllegal3C (s : State) : Host.Outcome State Fault Refusal := raiseInvalid s

/-- 0x3F (R223). -/
def execIllegal3F (s : State) : Host.Outcome State Fault Refusal := raiseInvalid s

/-- 0x42 (R223). -/
def execIllegal42 (s : State) : Host.Outcome State Fault Refusal := raiseInvalid s

/-- 0x43 (R223). -/
def execIllegal43 (s : State) : Host.Outcome State Fault Refusal := raiseInvalid s

/-- 0x44 (R223). -/
def execIllegal44 (s : State) : Host.Outcome State Fault Refusal := raiseInvalid s

/-- 0x47 (R223). -/
def execIllegal47 (s : State) : Host.Outcome State Fault Refusal := raiseInvalid s

/-- 0x4B (R223). -/
def execIllegal4B (s : State) : Host.Outcome State Fault Refusal := raiseInvalid s

/-- 0x4F (R223). -/
def execIllegal4F (s : State) : Host.Outcome State Fault Refusal := raiseInvalid s

/-- 0x52 (R223). -/
def execIllegal52 (s : State) : Host.Outcome State Fault Refusal := raiseInvalid s

/-- 0x53 (R223). -/
def execIllegal53 (s : State) : Host.Outcome State Fault Refusal := raiseInvalid s

/-- 0x54 (R223). -/
def execIllegal54 (s : State) : Host.Outcome State Fault Refusal := raiseInvalid s

/-- 0x57 (R223). -/
def execIllegal57 (s : State) : Host.Outcome State Fault Refusal := raiseInvalid s

/-- 0x5A (R223). -/
def execIllegal5A (s : State) : Host.Outcome State Fault Refusal := raiseInvalid s

/-- 0x5B (R223). -/
def execIllegal5B (s : State) : Host.Outcome State Fault Refusal := raiseInvalid s

/-- 0x5C (R223). -/
def execIllegal5C (s : State) : Host.Outcome State Fault Refusal := raiseInvalid s

/-- 0x5F (R223). -/
def execIllegal5F (s : State) : Host.Outcome State Fault Refusal := raiseInvalid s

/-- 0x62 (R223). -/
def execIllegal62 (s : State) : Host.Outcome State Fault Refusal := raiseInvalid s

/-- 0x63 (R223). -/
def execIllegal63 (s : State) : Host.Outcome State Fault Refusal := raiseInvalid s

/-- 0x64 (R223). -/
def execIllegal64 (s : State) : Host.Outcome State Fault Refusal := raiseInvalid s

/-- 0x67 (R223). -/
def execIllegal67 (s : State) : Host.Outcome State Fault Refusal := raiseInvalid s

/-- 0x6B (R223). -/
def execIllegal6B (s : State) : Host.Outcome State Fault Refusal := raiseInvalid s

/-- 0x6F (R223). -/
def execIllegal6F (s : State) : Host.Outcome State Fault Refusal := raiseInvalid s

/-- 0x72 (R223). -/
def execIllegal72 (s : State) : Host.Outcome State Fault Refusal := raiseInvalid s

/-- 0x73 (R223). -/
def execIllegal73 (s : State) : Host.Outcome State Fault Refusal := raiseInvalid s

/-- 0x74 (R223). -/
def execIllegal74 (s : State) : Host.Outcome State Fault Refusal := raiseInvalid s

/-- 0x77 (R223). -/
def execIllegal77 (s : State) : Host.Outcome State Fault Refusal := raiseInvalid s

/-- 0x7A (R223). -/
def execIllegal7A (s : State) : Host.Outcome State Fault Refusal := raiseInvalid s

/-- 0x7B (R223). -/
def execIllegal7B (s : State) : Host.Outcome State Fault Refusal := raiseInvalid s

/-- 0x7C (R223). -/
def execIllegal7C (s : State) : Host.Outcome State Fault Refusal := raiseInvalid s

/-- 0x7F (R223). -/
def execIllegal7F (s : State) : Host.Outcome State Fault Refusal := raiseInvalid s

/-- 0x80 (R223). -/
def execIllegal80 (s : State) : Host.Outcome State Fault Refusal := raiseInvalid s

/-- 0x82 (R223). -/
def execIllegal82 (s : State) : Host.Outcome State Fault Refusal := raiseInvalid s

/-- 0x83 (R223). -/
def execIllegal83 (s : State) : Host.Outcome State Fault Refusal := raiseInvalid s

/-- 0x87 (R223). -/
def execIllegal87 (s : State) : Host.Outcome State Fault Refusal := raiseInvalid s

/-- 0x89 (R223). -/
def execIllegal89 (s : State) : Host.Outcome State Fault Refusal := raiseInvalid s

/-- 0x8B (R223). -/
def execIllegal8B (s : State) : Host.Outcome State Fault Refusal := raiseInvalid s

/-- 0x8F (R223). -/
def execIllegal8F (s : State) : Host.Outcome State Fault Refusal := raiseInvalid s

/-- 0x92 (R223). -/
def execIllegal92 (s : State) : Host.Outcome State Fault Refusal := raiseInvalid s

/-- 0x93 (R223). -/
def execIllegal93 (s : State) : Host.Outcome State Fault Refusal := raiseInvalid s

/-- 0x97 (R223). -/
def execIllegal97 (s : State) : Host.Outcome State Fault Refusal := raiseInvalid s

/-- 0x9B (R223). -/
def execIllegal9B (s : State) : Host.Outcome State Fault Refusal := raiseInvalid s

/-- 0x9C (R223). -/
def execIllegal9C (s : State) : Host.Outcome State Fault Refusal := raiseInvalid s

/-- 0x9E (R223). -/
def execIllegal9E (s : State) : Host.Outcome State Fault Refusal := raiseInvalid s

/-- 0x9F (R223). -/
def execIllegal9F (s : State) : Host.Outcome State Fault Refusal := raiseInvalid s

/-- 0xA3 (R223). -/
def execIllegalA3 (s : State) : Host.Outcome State Fault Refusal := raiseInvalid s

/-- 0xA7 (R223). -/
def execIllegalA7 (s : State) : Host.Outcome State Fault Refusal := raiseInvalid s

/-- 0xAB (R223). -/
def execIllegalAB (s : State) : Host.Outcome State Fault Refusal := raiseInvalid s

/-- 0xAF (R223). -/
def execIllegalAF (s : State) : Host.Outcome State Fault Refusal := raiseInvalid s

/-- 0xB2 (R223). -/
def execIllegalB2 (s : State) : Host.Outcome State Fault Refusal := raiseInvalid s

/-- 0xB3 (R223). -/
def execIllegalB3 (s : State) : Host.Outcome State Fault Refusal := raiseInvalid s

/-- 0xB7 (R223). -/
def execIllegalB7 (s : State) : Host.Outcome State Fault Refusal := raiseInvalid s

/-- 0xBB (R223). -/
def execIllegalBB (s : State) : Host.Outcome State Fault Refusal := raiseInvalid s

/-- 0xBF (R223). -/
def execIllegalBF (s : State) : Host.Outcome State Fault Refusal := raiseInvalid s

/-- 0xC2 (R223). -/
def execIllegalC2 (s : State) : Host.Outcome State Fault Refusal := raiseInvalid s

/-- 0xC3 (R223). -/
def execIllegalC3 (s : State) : Host.Outcome State Fault Refusal := raiseInvalid s

/-- 0xC7 (R223). -/
def execIllegalC7 (s : State) : Host.Outcome State Fault Refusal := raiseInvalid s

/-- 0xCB (R223). -/
def execIllegalCB (s : State) : Host.Outcome State Fault Refusal := raiseInvalid s

/-- 0xCF (R223). -/
def execIllegalCF (s : State) : Host.Outcome State Fault Refusal := raiseInvalid s

/-- 0xD2 (R223). -/
def execIllegalD2 (s : State) : Host.Outcome State Fault Refusal := raiseInvalid s

/-- 0xD3 (R223). -/
def execIllegalD3 (s : State) : Host.Outcome State Fault Refusal := raiseInvalid s

/-- 0xD4 (R223). -/
def execIllegalD4 (s : State) : Host.Outcome State Fault Refusal := raiseInvalid s

/-- 0xD7 (R223). -/
def execIllegalD7 (s : State) : Host.Outcome State Fault Refusal := raiseInvalid s

/-- 0xDA (R223). -/
def execIllegalDA (s : State) : Host.Outcome State Fault Refusal := raiseInvalid s

/-- 0xDB (R223). -/
def execIllegalDB (s : State) : Host.Outcome State Fault Refusal := raiseInvalid s

/-- 0xDC (R223). -/
def execIllegalDC (s : State) : Host.Outcome State Fault Refusal := raiseInvalid s

/-- 0xDF (R223). -/
def execIllegalDF (s : State) : Host.Outcome State Fault Refusal := raiseInvalid s

/-- 0xE2 (R223). -/
def execIllegalE2 (s : State) : Host.Outcome State Fault Refusal := raiseInvalid s

/-- 0xE3 (R223). -/
def execIllegalE3 (s : State) : Host.Outcome State Fault Refusal := raiseInvalid s

/-- 0xE7 (R223). -/
def execIllegalE7 (s : State) : Host.Outcome State Fault Refusal := raiseInvalid s

/-- 0xEB (R223). -/
def execIllegalEB (s : State) : Host.Outcome State Fault Refusal := raiseInvalid s

/-- 0xEF (R223). -/
def execIllegalEF (s : State) : Host.Outcome State Fault Refusal := raiseInvalid s

/-- 0xF2 (R223). -/
def execIllegalF2 (s : State) : Host.Outcome State Fault Refusal := raiseInvalid s

/-- 0xF3 (R223). -/
def execIllegalF3 (s : State) : Host.Outcome State Fault Refusal := raiseInvalid s

/-- 0xF4 (R223). -/
def execIllegalF4 (s : State) : Host.Outcome State Fault Refusal := raiseInvalid s

/-- 0xF7 (R223). -/
def execIllegalF7 (s : State) : Host.Outcome State Fault Refusal := raiseInvalid s

/-- 0xFA (R223). -/
def execIllegalFA (s : State) : Host.Outcome State Fault Refusal := raiseInvalid s

/-- 0xFB (R223). -/
def execIllegalFB (s : State) : Host.Outcome State Fault Refusal := raiseInvalid s

/-- 0xFC (R223). -/
def execIllegalFC (s : State) : Host.Outcome State Fault Refusal := raiseInvalid s

/-- 0xFF (R223). -/
def execIllegalFF (s : State) : Host.Outcome State Fault Refusal := raiseInvalid s

end Sys2Proof.Machine
end

