-- ==== Sys2Proof/Machine/Increment.lean ====
section
/-! DEFINITION. INX and INY (42_alu.md R172, R173). -/

namespace Sys2Proof.Machine

/-- 0xC8 INY Implied (R173). -/
def execIny (s : State) : Host.Outcome State Fault Refusal := .next (advancePast .implied ((s.setY (inc8 s.y)).setP (s.p.setZN (inc8 s.y))))

/-- 0xE8 INX Implied (R172). -/
def execInx (s : State) : Host.Outcome State Fault Refusal := .next (advancePast .implied ((s.setX (inc8 s.x)).setP (s.p.setZN (inc8 s.x))))

end Sys2Proof.Machine
end

