-- ==== Sys2Proof/Machine/Load.lean ====
section
/-! DEFINITION. LDA in its eight modes (41_load_store_transfer.md R150). -/

namespace Sys2Proof.Machine

/-- LDA (R150): `v <- MemRead(ea, 1); A <- v; SetZN(v)`, then the operand-length advance. -/
def loadA (src : Source) (s : State) : Host.Outcome State Fault Refusal :=
  let v := sourceValue src s
  .next (advancePast src.mode ((s.setA v).setP (s.p.setZN v)))

/-- 0xA1 LDA IndirectX (R150). -/
def execLdaIndirectX (ptr : Byte) (s : State) : Host.Outcome State Fault Refusal := loadA (.memory (.indirectX ptr)) s

/-- 0xA5 LDA ZeroPage (R150). -/
def execLdaZeroPage (addr : Byte) (s : State) : Host.Outcome State Fault Refusal := loadA (.memory (.zeroPage addr)) s

/-- 0xA9 LDA Immediate (R150). -/
def execLdaImmediate (v : Byte) (s : State) : Host.Outcome State Fault Refusal := loadA (.immediate v) s

/-- 0xAD LDA Absolute (R150). -/
def execLdaAbsolute (addr : Address) (s : State) : Host.Outcome State Fault Refusal := loadA (.memory (.absolute addr)) s

/-- 0xB1 LDA IndirectY (R150). -/
def execLdaIndirectY (ptr : Byte) (s : State) : Host.Outcome State Fault Refusal := loadA (.memory (.indirectY ptr)) s

/-- 0xB5 LDA ZeroPageX (R150). -/
def execLdaZeroPageX (addr : Byte) (s : State) : Host.Outcome State Fault Refusal := loadA (.memory (.zeroPageX addr)) s

/-- 0xB9 LDA AbsoluteY (R150). -/
def execLdaAbsoluteY (addr : Address) (s : State) : Host.Outcome State Fault Refusal := loadA (.memory (.absoluteY addr)) s

/-- 0xBD LDA AbsoluteX (R150). -/
def execLdaAbsoluteX (addr : Address) (s : State) : Host.Outcome State Fault Refusal := loadA (.memory (.absoluteX addr)) s

end Sys2Proof.Machine
end

