-- ==== Sys2Proof/Machine/Logic.lean ====
section
/-! DEFINITION. AND in its eight modes (42_alu.md R174). -/

namespace Sys2Proof.Machine

/-- AND (R174): `m <- MemRead(ea, 1); r <- A AND m; A <- r; SetZN(r)`. -/
def andA (src : Source) (s : State) : Host.Outcome State Fault Refusal :=
  let r := and8 s.a (sourceValue src s)
  .next (advancePast src.mode ((s.setA r).setP (s.p.setZN r)))

/-- 0x21 AND IndirectX (R174). -/
def execAndIndirectX (ptr : Byte) (s : State) : Host.Outcome State Fault Refusal := andA (.memory (.indirectX ptr)) s

/-- 0x25 AND ZeroPage (R174). -/
def execAndZeroPage (addr : Byte) (s : State) : Host.Outcome State Fault Refusal := andA (.memory (.zeroPage addr)) s

/-- 0x29 AND Immediate (R174). -/
def execAndImmediate (v : Byte) (s : State) : Host.Outcome State Fault Refusal := andA (.immediate v) s

/-- 0x2D AND Absolute (R174). -/
def execAndAbsolute (addr : Address) (s : State) : Host.Outcome State Fault Refusal := andA (.memory (.absolute addr)) s

/-- 0x31 AND IndirectY (R174). -/
def execAndIndirectY (ptr : Byte) (s : State) : Host.Outcome State Fault Refusal := andA (.memory (.indirectY ptr)) s

/-- 0x35 AND ZeroPageX (R174). -/
def execAndZeroPageX (addr : Byte) (s : State) : Host.Outcome State Fault Refusal := andA (.memory (.zeroPageX addr)) s

/-- 0x39 AND AbsoluteY (R174). -/
def execAndAbsoluteY (addr : Address) (s : State) : Host.Outcome State Fault Refusal := andA (.memory (.absoluteY addr)) s

/-- 0x3D AND AbsoluteX (R174). -/
def execAndAbsoluteX (addr : Address) (s : State) : Host.Outcome State Fault Refusal := andA (.memory (.absoluteX addr)) s

end Sys2Proof.Machine
end

