-- ==== Sys2Proof/Machine/Shift.lean ====
section
/-! DEFINITION. ASL, of the accumulator and of memory (42_alu.md R175 to R177). -/

namespace Sys2Proof.Machine

/-- ASL A (R176): `v <- A; P.C <- v[7]; r <- (v << 1) mod 256; A <- r; SetZN(r)`. -/
def shiftA (s : State) : Host.Outcome State Fault Refusal :=
  .next (advancePast .accumulator ((s.setA (shl8 s.a)).setP (s.p.afterShift s.a)))

/-- ASL of a memory byte (R177): one read, then one write, of the same cell. -/
def shiftMemory (dst : MemOperand) (s : State) : Host.Outcome State Fault Refusal :=
  let v := loadByte dst s
  .next (advancePast dst.mode ((s.store (ea dst s) (shl8 v)).setP (s.p.afterShift v)))

/-- 0x06 ASL ZeroPage (R177). -/
def execAslZeroPage (addr : Byte) (s : State) : Host.Outcome State Fault Refusal := shiftMemory (.zeroPage addr) s

/-- 0x0A ASL Accumulator (R176). -/
def execAslAccumulator (s : State) : Host.Outcome State Fault Refusal := shiftA s

/-- 0x0E ASL Absolute (R177). -/
def execAslAbsolute (addr : Address) (s : State) : Host.Outcome State Fault Refusal := shiftMemory (.absolute addr) s

/-- 0x16 ASL ZeroPageX (R177). -/
def execAslZeroPageX (addr : Byte) (s : State) : Host.Outcome State Fault Refusal := shiftMemory (.zeroPageX addr) s

/-- 0x1E ASL AbsoluteX (R177). -/
def execAslAbsoluteX (addr : Address) (s : State) : Host.Outcome State Fault Refusal := shiftMemory (.absoluteX addr) s

end Sys2Proof.Machine
end

