-- ==== Sys2Proof/Machine/Store.lean ====
section
/-! DEFINITION. STA, STX and STY (41_load_store_transfer.md R151 to R154). -/

namespace Sys2Proof.Machine

/-- The stores (R151): one byte written at EA, no flag and no register but PC. -/
def storeByte (dst : MemOperand) (v : Byte) (s : State) : Host.Outcome State Fault Refusal :=
  .next (advancePast dst.mode (s.store (ea dst s) v))

/-- 0x81 STA IndirectX (R152). -/
def execStaIndirectX (ptr : Byte) (s : State) : Host.Outcome State Fault Refusal := storeByte (.indirectX ptr) s.a s

/-- 0x84 STY ZeroPage (R154). -/
def execStyZeroPage (addr : Byte) (s : State) : Host.Outcome State Fault Refusal := storeByte (.zeroPage addr) s.y s

/-- 0x85 STA ZeroPage (R152). -/
def execStaZeroPage (addr : Byte) (s : State) : Host.Outcome State Fault Refusal := storeByte (.zeroPage addr) s.a s

/-- 0x86 STX ZeroPage (R153). -/
def execStxZeroPage (addr : Byte) (s : State) : Host.Outcome State Fault Refusal := storeByte (.zeroPage addr) s.x s

/-- 0x8C STY Absolute (R154). -/
def execStyAbsolute (addr : Address) (s : State) : Host.Outcome State Fault Refusal := storeByte (.absolute addr) s.y s

/-- 0x8D STA Absolute (R152). -/
def execStaAbsolute (addr : Address) (s : State) : Host.Outcome State Fault Refusal := storeByte (.absolute addr) s.a s

/-- 0x8E STX Absolute (R153). -/
def execStxAbsolute (addr : Address) (s : State) : Host.Outcome State Fault Refusal := storeByte (.absolute addr) s.x s

/-- 0x91 STA IndirectY (R152). -/
def execStaIndirectY (ptr : Byte) (s : State) : Host.Outcome State Fault Refusal := storeByte (.indirectY ptr) s.a s

/-- 0x94 STY ZeroPageX (R154). -/
def execStyZeroPageX (addr : Byte) (s : State) : Host.Outcome State Fault Refusal := storeByte (.zeroPageX addr) s.y s

/-- 0x95 STA ZeroPageX (R152). -/
def execStaZeroPageX (addr : Byte) (s : State) : Host.Outcome State Fault Refusal := storeByte (.zeroPageX addr) s.a s

/-- 0x96 STX ZeroPageY (R153). -/
def execStxZeroPageY (addr : Byte) (s : State) : Host.Outcome State Fault Refusal := storeByte (.zeroPageY addr) s.x s

/-- 0x99 STA AbsoluteY (R152). -/
def execStaAbsoluteY (addr : Address) (s : State) : Host.Outcome State Fault Refusal := storeByte (.absoluteY addr) s.a s

/-- 0x9D STA AbsoluteX (R152). -/
def execStaAbsoluteX (addr : Address) (s : State) : Host.Outcome State Fault Refusal := storeByte (.absoluteX addr) s.a s

end Sys2Proof.Machine
end

