-- ==== Sys2Proof/Machine/Transfer.lean ====
section
/-! DEFINITION. TAX and TAY (41_load_store_transfer.md R155 to R157). -/

namespace Sys2Proof.Machine

/-- 0xA8 TAY Implied (R157). -/
def execTay (s : State) : Host.Outcome State Fault Refusal := .next (advancePast .implied ((s.setY s.a).setP (s.p.setZN s.a)))

/-- 0xAA TAX Implied (R156). -/
def execTax (s : State) : Host.Outcome State Fault Refusal := .next (advancePast .implied ((s.setX s.a).setP (s.p.setZN s.a)))

end Sys2Proof.Machine
end

