-- ==== Sys2Proof/Machine/Unimplemented.lean ====
section
/-! DEFINITION. The 96 unimplemented opcodes (30_encoding.md R86): each raises Fault(Unimplemented) (60_exceptions.md R221). Each byte has a meaning of its own. -/

namespace Sys2Proof.Machine

/-- Dispatching `Unimplemented(mnemonic)` (R111, R221, R229). -/
def raiseUnimplemented (s : State) : Host.Outcome State Fault Refusal := .next (s.raiseFault .unimplemented)

/-- 0x01, historical ORA IndirectX (R221). -/
def execOraIndirectX (s : State) : Host.Outcome State Fault Refusal := raiseUnimplemented s

/-- 0x05, historical ORA ZeroPage (R221). -/
def execOraZeroPage (s : State) : Host.Outcome State Fault Refusal := raiseUnimplemented s

/-- 0x08, historical PHP Implied (R221). -/
def execPhp (s : State) : Host.Outcome State Fault Refusal := raiseUnimplemented s

/-- 0x09, historical ORA Immediate (R221). -/
def execOraImmediate (s : State) : Host.Outcome State Fault Refusal := raiseUnimplemented s

/-- 0x0D, historical ORA Absolute (R221). -/
def execOraAbsolute (s : State) : Host.Outcome State Fault Refusal := raiseUnimplemented s

/-- 0x11, historical ORA IndirectY (R221). -/
def execOraIndirectY (s : State) : Host.Outcome State Fault Refusal := raiseUnimplemented s

/-- 0x15, historical ORA ZeroPageX (R221). -/
def execOraZeroPageX (s : State) : Host.Outcome State Fault Refusal := raiseUnimplemented s

/-- 0x18, historical CLC Implied (R221). -/
def execClc (s : State) : Host.Outcome State Fault Refusal := raiseUnimplemented s

/-- 0x19, historical ORA AbsoluteY (R221). -/
def execOraAbsoluteY (s : State) : Host.Outcome State Fault Refusal := raiseUnimplemented s

/-- 0x1D, historical ORA AbsoluteX (R221). -/
def execOraAbsoluteX (s : State) : Host.Outcome State Fault Refusal := raiseUnimplemented s

/-- 0x20, historical JSR Absolute (R221). -/
def execJsr (s : State) : Host.Outcome State Fault Refusal := raiseUnimplemented s

/-- 0x24, historical BIT ZeroPage (R221). -/
def execBitZeroPage (s : State) : Host.Outcome State Fault Refusal := raiseUnimplemented s

/-- 0x26, historical ROL ZeroPage (R221). -/
def execRolZeroPage (s : State) : Host.Outcome State Fault Refusal := raiseUnimplemented s

/-- 0x28, historical PLP Implied (R221). -/
def execPlp (s : State) : Host.Outcome State Fault Refusal := raiseUnimplemented s

/-- 0x2A, historical ROL Accumulator (R221). -/
def execRolAccumulator (s : State) : Host.Outcome State Fault Refusal := raiseUnimplemented s

/-- 0x2C, historical BIT Absolute (R221). -/
def execBitAbsolute (s : State) : Host.Outcome State Fault Refusal := raiseUnimplemented s

/-- 0x2E, historical ROL Absolute (R221). -/
def execRolAbsolute (s : State) : Host.Outcome State Fault Refusal := raiseUnimplemented s

/-- 0x36, historical ROL ZeroPageX (R221). -/
def execRolZeroPageX (s : State) : Host.Outcome State Fault Refusal := raiseUnimplemented s

/-- 0x38, historical SEC Implied (R221). -/
def execSec (s : State) : Host.Outcome State Fault Refusal := raiseUnimplemented s

/-- 0x3E, historical ROL AbsoluteX (R221). -/
def execRolAbsoluteX (s : State) : Host.Outcome State Fault Refusal := raiseUnimplemented s

/-- 0x40, historical RTI Implied (R221). -/
def execRti (s : State) : Host.Outcome State Fault Refusal := raiseUnimplemented s

/-- 0x41, historical EOR IndirectX (R221). -/
def execEorIndirectX (s : State) : Host.Outcome State Fault Refusal := raiseUnimplemented s

/-- 0x45, historical EOR ZeroPage (R221). -/
def execEorZeroPage (s : State) : Host.Outcome State Fault Refusal := raiseUnimplemented s

/-- 0x46, historical LSR ZeroPage (R221). -/
def execLsrZeroPage (s : State) : Host.Outcome State Fault Refusal := raiseUnimplemented s

/-- 0x48, historical PHA Implied (R221). -/
def execPha (s : State) : Host.Outcome State Fault Refusal := raiseUnimplemented s

/-- 0x49, historical EOR Immediate (R221). -/
def execEorImmediate (s : State) : Host.Outcome State Fault Refusal := raiseUnimplemented s

/-- 0x4A, historical LSR Accumulator (R221). -/
def execLsrAccumulator (s : State) : Host.Outcome State Fault Refusal := raiseUnimplemented s

/-- 0x4C, historical JMP Absolute (R221). -/
def execJmpAbsolute (s : State) : Host.Outcome State Fault Refusal := raiseUnimplemented s

/-- 0x4D, historical EOR Absolute (R221). -/
def execEorAbsolute (s : State) : Host.Outcome State Fault Refusal := raiseUnimplemented s

/-- 0x4E, historical LSR Absolute (R221). -/
def execLsrAbsolute (s : State) : Host.Outcome State Fault Refusal := raiseUnimplemented s

/-- 0x51, historical EOR IndirectY (R221). -/
def execEorIndirectY (s : State) : Host.Outcome State Fault Refusal := raiseUnimplemented s

/-- 0x55, historical EOR ZeroPageX (R221). -/
def execEorZeroPageX (s : State) : Host.Outcome State Fault Refusal := raiseUnimplemented s

/-- 0x56, historical LSR ZeroPageX (R221). -/
def execLsrZeroPageX (s : State) : Host.Outcome State Fault Refusal := raiseUnimplemented s

/-- 0x58, historical CLI Implied (R221). -/
def execCli (s : State) : Host.Outcome State Fault Refusal := raiseUnimplemented s

/-- 0x59, historical EOR AbsoluteY (R221). -/
def execEorAbsoluteY (s : State) : Host.Outcome State Fault Refusal := raiseUnimplemented s

/-- 0x5D, historical EOR AbsoluteX (R221). -/
def execEorAbsoluteX (s : State) : Host.Outcome State Fault Refusal := raiseUnimplemented s

/-- 0x5E, historical LSR AbsoluteX (R221). -/
def execLsrAbsoluteX (s : State) : Host.Outcome State Fault Refusal := raiseUnimplemented s

/-- 0x60, historical RTS Implied (R221). -/
def execRts (s : State) : Host.Outcome State Fault Refusal := raiseUnimplemented s

/-- 0x66, historical ROR ZeroPage (R221). -/
def execRorZeroPage (s : State) : Host.Outcome State Fault Refusal := raiseUnimplemented s

/-- 0x68, historical PLA Implied (R221). -/
def execPla (s : State) : Host.Outcome State Fault Refusal := raiseUnimplemented s

/-- 0x6A, historical ROR Accumulator (R221). -/
def execRorAccumulator (s : State) : Host.Outcome State Fault Refusal := raiseUnimplemented s

/-- 0x6C, historical JMP Indirect (R221). -/
def execJmpIndirect (s : State) : Host.Outcome State Fault Refusal := raiseUnimplemented s

/-- 0x6E, historical ROR Absolute (R221). -/
def execRorAbsolute (s : State) : Host.Outcome State Fault Refusal := raiseUnimplemented s

/-- 0x76, historical ROR ZeroPageX (R221). -/
def execRorZeroPageX (s : State) : Host.Outcome State Fault Refusal := raiseUnimplemented s

/-- 0x78, historical SEI Implied (R221). -/
def execSei (s : State) : Host.Outcome State Fault Refusal := raiseUnimplemented s

/-- 0x7E, historical ROR AbsoluteX (R221). -/
def execRorAbsoluteX (s : State) : Host.Outcome State Fault Refusal := raiseUnimplemented s

/-- 0x88, historical DEY Implied (R221). -/
def execDey (s : State) : Host.Outcome State Fault Refusal := raiseUnimplemented s

/-- 0x8A, historical TXA Implied (R221). -/
def execTxa (s : State) : Host.Outcome State Fault Refusal := raiseUnimplemented s

/-- 0x98, historical TYA Implied (R221). -/
def execTya (s : State) : Host.Outcome State Fault Refusal := raiseUnimplemented s

/-- 0x9A, historical TXS Implied (R221). -/
def execTxs (s : State) : Host.Outcome State Fault Refusal := raiseUnimplemented s

/-- 0xA0, historical LDY Immediate (R221). -/
def execLdyImmediate (s : State) : Host.Outcome State Fault Refusal := raiseUnimplemented s

/-- 0xA2, historical LDX Immediate (R221). -/
def execLdxImmediate (s : State) : Host.Outcome State Fault Refusal := raiseUnimplemented s

/-- 0xA4, historical LDY ZeroPage (R221). -/
def execLdyZeroPage (s : State) : Host.Outcome State Fault Refusal := raiseUnimplemented s

/-- 0xA6, historical LDX ZeroPage (R221). -/
def execLdxZeroPage (s : State) : Host.Outcome State Fault Refusal := raiseUnimplemented s

/-- 0xAC, historical LDY Absolute (R221). -/
def execLdyAbsolute (s : State) : Host.Outcome State Fault Refusal := raiseUnimplemented s

/-- 0xAE, historical LDX Absolute (R221). -/
def execLdxAbsolute (s : State) : Host.Outcome State Fault Refusal := raiseUnimplemented s

/-- 0xB4, historical LDY ZeroPageX (R221). -/
def execLdyZeroPageX (s : State) : Host.Outcome State Fault Refusal := raiseUnimplemented s

/-- 0xB6, historical LDX ZeroPageY (R221). -/
def execLdxZeroPageY (s : State) : Host.Outcome State Fault Refusal := raiseUnimplemented s

/-- 0xB8, historical CLV Implied (R221). -/
def execClv (s : State) : Host.Outcome State Fault Refusal := raiseUnimplemented s

/-- 0xBA, historical TSX Implied (R221). -/
def execTsx (s : State) : Host.Outcome State Fault Refusal := raiseUnimplemented s

/-- 0xBC, historical LDY AbsoluteX (R221). -/
def execLdyAbsoluteX (s : State) : Host.Outcome State Fault Refusal := raiseUnimplemented s

/-- 0xBE, historical LDX AbsoluteY (R221). -/
def execLdxAbsoluteY (s : State) : Host.Outcome State Fault Refusal := raiseUnimplemented s

/-- 0xC0, historical CPY Immediate (R221). -/
def execCpyImmediate (s : State) : Host.Outcome State Fault Refusal := raiseUnimplemented s

/-- 0xC1, historical CMP IndirectX (R221). -/
def execCmpIndirectX (s : State) : Host.Outcome State Fault Refusal := raiseUnimplemented s

/-- 0xC4, historical CPY ZeroPage (R221). -/
def execCpyZeroPage (s : State) : Host.Outcome State Fault Refusal := raiseUnimplemented s

/-- 0xC5, historical CMP ZeroPage (R221). -/
def execCmpZeroPage (s : State) : Host.Outcome State Fault Refusal := raiseUnimplemented s

/-- 0xC6, historical DEC ZeroPage (R221). -/
def execDecZeroPage (s : State) : Host.Outcome State Fault Refusal := raiseUnimplemented s

/-- 0xC9, historical CMP Immediate (R221). -/
def execCmpImmediate (s : State) : Host.Outcome State Fault Refusal := raiseUnimplemented s

/-- 0xCA, historical DEX Implied (R221). -/
def execDex (s : State) : Host.Outcome State Fault Refusal := raiseUnimplemented s

/-- 0xCC, historical CPY Absolute (R221). -/
def execCpyAbsolute (s : State) : Host.Outcome State Fault Refusal := raiseUnimplemented s

/-- 0xCD, historical CMP Absolute (R221). -/
def execCmpAbsolute (s : State) : Host.Outcome State Fault Refusal := raiseUnimplemented s

/-- 0xCE, historical DEC Absolute (R221). -/
def execDecAbsolute (s : State) : Host.Outcome State Fault Refusal := raiseUnimplemented s

/-- 0xD1, historical CMP IndirectY (R221). -/
def execCmpIndirectY (s : State) : Host.Outcome State Fault Refusal := raiseUnimplemented s

/-- 0xD5, historical CMP ZeroPageX (R221). -/
def execCmpZeroPageX (s : State) : Host.Outcome State Fault Refusal := raiseUnimplemented s

/-- 0xD6, historical DEC ZeroPageX (R221). -/
def execDecZeroPageX (s : State) : Host.Outcome State Fault Refusal := raiseUnimplemented s

/-- 0xD8, historical CLD Implied (R221). -/
def execCld (s : State) : Host.Outcome State Fault Refusal := raiseUnimplemented s

/-- 0xD9, historical CMP AbsoluteY (R221). -/
def execCmpAbsoluteY (s : State) : Host.Outcome State Fault Refusal := raiseUnimplemented s

/-- 0xDD, historical CMP AbsoluteX (R221). -/
def execCmpAbsoluteX (s : State) : Host.Outcome State Fault Refusal := raiseUnimplemented s

/-- 0xDE, historical DEC AbsoluteX (R221). -/
def execDecAbsoluteX (s : State) : Host.Outcome State Fault Refusal := raiseUnimplemented s

/-- 0xE0, historical CPX Immediate (R221). -/
def execCpxImmediate (s : State) : Host.Outcome State Fault Refusal := raiseUnimplemented s

/-- 0xE1, historical SBC IndirectX (R221). -/
def execSbcIndirectX (s : State) : Host.Outcome State Fault Refusal := raiseUnimplemented s

/-- 0xE4, historical CPX ZeroPage (R221). -/
def execCpxZeroPage (s : State) : Host.Outcome State Fault Refusal := raiseUnimplemented s

/-- 0xE5, historical SBC ZeroPage (R221). -/
def execSbcZeroPage (s : State) : Host.Outcome State Fault Refusal := raiseUnimplemented s

/-- 0xE6, historical INC ZeroPage (R221). -/
def execIncZeroPage (s : State) : Host.Outcome State Fault Refusal := raiseUnimplemented s

/-- 0xE9, historical SBC Immediate (R221). -/
def execSbcImmediate (s : State) : Host.Outcome State Fault Refusal := raiseUnimplemented s

/-- 0xEA, historical NOP Implied (R221). -/
def execNop (s : State) : Host.Outcome State Fault Refusal := raiseUnimplemented s

/-- 0xEC, historical CPX Absolute (R221). -/
def execCpxAbsolute (s : State) : Host.Outcome State Fault Refusal := raiseUnimplemented s

/-- 0xED, historical SBC Absolute (R221). -/
def execSbcAbsolute (s : State) : Host.Outcome State Fault Refusal := raiseUnimplemented s

/-- 0xEE, historical INC Absolute (R221). -/
def execIncAbsolute (s : State) : Host.Outcome State Fault Refusal := raiseUnimplemented s

/-- 0xF1, historical SBC IndirectY (R221). -/
def execSbcIndirectY (s : State) : Host.Outcome State Fault Refusal := raiseUnimplemented s

/-- 0xF5, historical SBC ZeroPageX (R221). -/
def execSbcZeroPageX (s : State) : Host.Outcome State Fault Refusal := raiseUnimplemented s

/-- 0xF6, historical INC ZeroPageX (R221). -/
def execIncZeroPageX (s : State) : Host.Outcome State Fault Refusal := raiseUnimplemented s

/-- 0xF8, historical SED Implied (R221). -/
def execSed (s : State) : Host.Outcome State Fault Refusal := raiseUnimplemented s

/-- 0xF9, historical SBC AbsoluteY (R221). -/
def execSbcAbsoluteY (s : State) : Host.Outcome State Fault Refusal := raiseUnimplemented s

/-- 0xFD, historical SBC AbsoluteX (R221). -/
def execSbcAbsoluteX (s : State) : Host.Outcome State Fault Refusal := raiseUnimplemented s

/-- 0xFE, historical INC AbsoluteX (R221). -/
def execIncAbsoluteX (s : State) : Host.Outcome State Fault Refusal := raiseUnimplemented s

end Sys2Proof.Machine
end

