-- ==== Sys2Proof/Machine/Dispatch.lean ====
section
/-! DEFINITION. One arm per constructor of Instr (40_execution_cycle.md R118): the effect of each instruction on a state whose
PC is the opcode's address. -/

namespace Sys2Proof.Machine

def exec (i : Instr) (s : State) : Host.Outcome State Fault Refusal :=
  match i with
  | .brk => Sys2Proof.Machine.execBrk s
  | .oraIndirectX => Sys2Proof.Machine.execOraIndirectX s
  | .illegal02 => Sys2Proof.Machine.execIllegal02 s
  | .illegal03 => Sys2Proof.Machine.execIllegal03 s
  | .illegal04 => Sys2Proof.Machine.execIllegal04 s
  | .oraZeroPage => Sys2Proof.Machine.execOraZeroPage s
  | .aslZeroPage addr => Sys2Proof.Machine.execAslZeroPage addr s
  | .illegal07 => Sys2Proof.Machine.execIllegal07 s
  | .php => Sys2Proof.Machine.execPhp s
  | .oraImmediate => Sys2Proof.Machine.execOraImmediate s
  | .aslAccumulator => Sys2Proof.Machine.execAslAccumulator s
  | .illegal0B => Sys2Proof.Machine.execIllegal0B s
  | .illegal0C => Sys2Proof.Machine.execIllegal0C s
  | .oraAbsolute => Sys2Proof.Machine.execOraAbsolute s
  | .aslAbsolute addr => Sys2Proof.Machine.execAslAbsolute addr s
  | .illegal0F => Sys2Proof.Machine.execIllegal0F s
  | .bpl d => Sys2Proof.Machine.execBpl d s
  | .oraIndirectY => Sys2Proof.Machine.execOraIndirectY s
  | .illegal12 => Sys2Proof.Machine.execIllegal12 s
  | .illegal13 => Sys2Proof.Machine.execIllegal13 s
  | .illegal14 => Sys2Proof.Machine.execIllegal14 s
  | .oraZeroPageX => Sys2Proof.Machine.execOraZeroPageX s
  | .aslZeroPageX addr => Sys2Proof.Machine.execAslZeroPageX addr s
  | .illegal17 => Sys2Proof.Machine.execIllegal17 s
  | .clc => Sys2Proof.Machine.execClc s
  | .oraAbsoluteY => Sys2Proof.Machine.execOraAbsoluteY s
  | .illegal1A => Sys2Proof.Machine.execIllegal1A s
  | .illegal1B => Sys2Proof.Machine.execIllegal1B s
  | .illegal1C => Sys2Proof.Machine.execIllegal1C s
  | .oraAbsoluteX => Sys2Proof.Machine.execOraAbsoluteX s
  | .aslAbsoluteX addr => Sys2Proof.Machine.execAslAbsoluteX addr s
  | .illegal1F => Sys2Proof.Machine.execIllegal1F s
  | .jsr => Sys2Proof.Machine.execJsr s
  | .andIndirectX ptr => Sys2Proof.Machine.execAndIndirectX ptr s
  | .illegal22 => Sys2Proof.Machine.execIllegal22 s
  | .illegal23 => Sys2Proof.Machine.execIllegal23 s
  | .bitZeroPage => Sys2Proof.Machine.execBitZeroPage s
  | .andZeroPage addr => Sys2Proof.Machine.execAndZeroPage addr s
  | .rolZeroPage => Sys2Proof.Machine.execRolZeroPage s
  | .illegal27 => Sys2Proof.Machine.execIllegal27 s
  | .plp => Sys2Proof.Machine.execPlp s
  | .andImmediate v => Sys2Proof.Machine.execAndImmediate v s
  | .rolAccumulator => Sys2Proof.Machine.execRolAccumulator s
  | .illegal2B => Sys2Proof.Machine.execIllegal2B s
  | .bitAbsolute => Sys2Proof.Machine.execBitAbsolute s
  | .andAbsolute addr => Sys2Proof.Machine.execAndAbsolute addr s
  | .rolAbsolute => Sys2Proof.Machine.execRolAbsolute s
  | .illegal2F => Sys2Proof.Machine.execIllegal2F s
  | .bmi d => Sys2Proof.Machine.execBmi d s
  | .andIndirectY ptr => Sys2Proof.Machine.execAndIndirectY ptr s
  | .illegal32 => Sys2Proof.Machine.execIllegal32 s
  | .illegal33 => Sys2Proof.Machine.execIllegal33 s
  | .illegal34 => Sys2Proof.Machine.execIllegal34 s
  | .andZeroPageX addr => Sys2Proof.Machine.execAndZeroPageX addr s
  | .rolZeroPageX => Sys2Proof.Machine.execRolZeroPageX s
  | .illegal37 => Sys2Proof.Machine.execIllegal37 s
  | .sec => Sys2Proof.Machine.execSec s
  | .andAbsoluteY addr => Sys2Proof.Machine.execAndAbsoluteY addr s
  | .illegal3A => Sys2Proof.Machine.execIllegal3A s
  | .illegal3B => Sys2Proof.Machine.execIllegal3B s
  | .illegal3C => Sys2Proof.Machine.execIllegal3C s
  | .andAbsoluteX addr => Sys2Proof.Machine.execAndAbsoluteX addr s
  | .rolAbsoluteX => Sys2Proof.Machine.execRolAbsoluteX s
  | .illegal3F => Sys2Proof.Machine.execIllegal3F s
  | .rti => Sys2Proof.Machine.execRti s
  | .eorIndirectX => Sys2Proof.Machine.execEorIndirectX s
  | .illegal42 => Sys2Proof.Machine.execIllegal42 s
  | .illegal43 => Sys2Proof.Machine.execIllegal43 s
  | .illegal44 => Sys2Proof.Machine.execIllegal44 s
  | .eorZeroPage => Sys2Proof.Machine.execEorZeroPage s
  | .lsrZeroPage => Sys2Proof.Machine.execLsrZeroPage s
  | .illegal47 => Sys2Proof.Machine.execIllegal47 s
  | .pha => Sys2Proof.Machine.execPha s
  | .eorImmediate => Sys2Proof.Machine.execEorImmediate s
  | .lsrAccumulator => Sys2Proof.Machine.execLsrAccumulator s
  | .illegal4B => Sys2Proof.Machine.execIllegal4B s
  | .jmpAbsolute => Sys2Proof.Machine.execJmpAbsolute s
  | .eorAbsolute => Sys2Proof.Machine.execEorAbsolute s
  | .lsrAbsolute => Sys2Proof.Machine.execLsrAbsolute s
  | .illegal4F => Sys2Proof.Machine.execIllegal4F s
  | .bvc d => Sys2Proof.Machine.execBvc d s
  | .eorIndirectY => Sys2Proof.Machine.execEorIndirectY s
  | .illegal52 => Sys2Proof.Machine.execIllegal52 s
  | .illegal53 => Sys2Proof.Machine.execIllegal53 s
  | .illegal54 => Sys2Proof.Machine.execIllegal54 s
  | .eorZeroPageX => Sys2Proof.Machine.execEorZeroPageX s
  | .lsrZeroPageX => Sys2Proof.Machine.execLsrZeroPageX s
  | .illegal57 => Sys2Proof.Machine.execIllegal57 s
  | .cli => Sys2Proof.Machine.execCli s
  | .eorAbsoluteY => Sys2Proof.Machine.execEorAbsoluteY s
  | .illegal5A => Sys2Proof.Machine.execIllegal5A s
  | .illegal5B => Sys2Proof.Machine.execIllegal5B s
  | .illegal5C => Sys2Proof.Machine.execIllegal5C s
  | .eorAbsoluteX => Sys2Proof.Machine.execEorAbsoluteX s
  | .lsrAbsoluteX => Sys2Proof.Machine.execLsrAbsoluteX s
  | .illegal5F => Sys2Proof.Machine.execIllegal5F s
  | .rts => Sys2Proof.Machine.execRts s
  | .adcIndirectX ptr => Sys2Proof.Machine.execAdcIndirectX ptr s
  | .illegal62 => Sys2Proof.Machine.execIllegal62 s
  | .illegal63 => Sys2Proof.Machine.execIllegal63 s
  | .illegal64 => Sys2Proof.Machine.execIllegal64 s
  | .adcZeroPage addr => Sys2Proof.Machine.execAdcZeroPage addr s
  | .rorZeroPage => Sys2Proof.Machine.execRorZeroPage s
  | .illegal67 => Sys2Proof.Machine.execIllegal67 s
  | .pla => Sys2Proof.Machine.execPla s
  | .adcImmediate v => Sys2Proof.Machine.execAdcImmediate v s
  | .rorAccumulator => Sys2Proof.Machine.execRorAccumulator s
  | .illegal6B => Sys2Proof.Machine.execIllegal6B s
  | .jmpIndirect => Sys2Proof.Machine.execJmpIndirect s
  | .adcAbsolute addr => Sys2Proof.Machine.execAdcAbsolute addr s
  | .rorAbsolute => Sys2Proof.Machine.execRorAbsolute s
  | .illegal6F => Sys2Proof.Machine.execIllegal6F s
  | .bvs d => Sys2Proof.Machine.execBvs d s
  | .adcIndirectY ptr => Sys2Proof.Machine.execAdcIndirectY ptr s
  | .illegal72 => Sys2Proof.Machine.execIllegal72 s
  | .illegal73 => Sys2Proof.Machine.execIllegal73 s
  | .illegal74 => Sys2Proof.Machine.execIllegal74 s
  | .adcZeroPageX addr => Sys2Proof.Machine.execAdcZeroPageX addr s
  | .rorZeroPageX => Sys2Proof.Machine.execRorZeroPageX s
  | .illegal77 => Sys2Proof.Machine.execIllegal77 s
  | .sei => Sys2Proof.Machine.execSei s
  | .adcAbsoluteY addr => Sys2Proof.Machine.execAdcAbsoluteY addr s
  | .illegal7A => Sys2Proof.Machine.execIllegal7A s
  | .illegal7B => Sys2Proof.Machine.execIllegal7B s
  | .illegal7C => Sys2Proof.Machine.execIllegal7C s
  | .adcAbsoluteX addr => Sys2Proof.Machine.execAdcAbsoluteX addr s
  | .rorAbsoluteX => Sys2Proof.Machine.execRorAbsoluteX s
  | .illegal7F => Sys2Proof.Machine.execIllegal7F s
  | .illegal80 => Sys2Proof.Machine.execIllegal80 s
  | .staIndirectX ptr => Sys2Proof.Machine.execStaIndirectX ptr s
  | .illegal82 => Sys2Proof.Machine.execIllegal82 s
  | .illegal83 => Sys2Proof.Machine.execIllegal83 s
  | .styZeroPage addr => Sys2Proof.Machine.execStyZeroPage addr s
  | .staZeroPage addr => Sys2Proof.Machine.execStaZeroPage addr s
  | .stxZeroPage addr => Sys2Proof.Machine.execStxZeroPage addr s
  | .illegal87 => Sys2Proof.Machine.execIllegal87 s
  | .dey => Sys2Proof.Machine.execDey s
  | .illegal89 => Sys2Proof.Machine.execIllegal89 s
  | .txa => Sys2Proof.Machine.execTxa s
  | .illegal8B => Sys2Proof.Machine.execIllegal8B s
  | .styAbsolute addr => Sys2Proof.Machine.execStyAbsolute addr s
  | .staAbsolute addr => Sys2Proof.Machine.execStaAbsolute addr s
  | .stxAbsolute addr => Sys2Proof.Machine.execStxAbsolute addr s
  | .illegal8F => Sys2Proof.Machine.execIllegal8F s
  | .bcc d => Sys2Proof.Machine.execBcc d s
  | .staIndirectY ptr => Sys2Proof.Machine.execStaIndirectY ptr s
  | .illegal92 => Sys2Proof.Machine.execIllegal92 s
  | .illegal93 => Sys2Proof.Machine.execIllegal93 s
  | .styZeroPageX addr => Sys2Proof.Machine.execStyZeroPageX addr s
  | .staZeroPageX addr => Sys2Proof.Machine.execStaZeroPageX addr s
  | .stxZeroPageY addr => Sys2Proof.Machine.execStxZeroPageY addr s
  | .illegal97 => Sys2Proof.Machine.execIllegal97 s
  | .tya => Sys2Proof.Machine.execTya s
  | .staAbsoluteY addr => Sys2Proof.Machine.execStaAbsoluteY addr s
  | .txs => Sys2Proof.Machine.execTxs s
  | .illegal9B => Sys2Proof.Machine.execIllegal9B s
  | .illegal9C => Sys2Proof.Machine.execIllegal9C s
  | .staAbsoluteX addr => Sys2Proof.Machine.execStaAbsoluteX addr s
  | .illegal9E => Sys2Proof.Machine.execIllegal9E s
  | .illegal9F => Sys2Proof.Machine.execIllegal9F s
  | .ldyImmediate => Sys2Proof.Machine.execLdyImmediate s
  | .ldaIndirectX ptr => Sys2Proof.Machine.execLdaIndirectX ptr s
  | .ldxImmediate => Sys2Proof.Machine.execLdxImmediate s
  | .illegalA3 => Sys2Proof.Machine.execIllegalA3 s
  | .ldyZeroPage => Sys2Proof.Machine.execLdyZeroPage s
  | .ldaZeroPage addr => Sys2Proof.Machine.execLdaZeroPage addr s
  | .ldxZeroPage => Sys2Proof.Machine.execLdxZeroPage s
  | .illegalA7 => Sys2Proof.Machine.execIllegalA7 s
  | .tay => Sys2Proof.Machine.execTay s
  | .ldaImmediate v => Sys2Proof.Machine.execLdaImmediate v s
  | .tax => Sys2Proof.Machine.execTax s
  | .illegalAB => Sys2Proof.Machine.execIllegalAB s
  | .ldyAbsolute => Sys2Proof.Machine.execLdyAbsolute s
  | .ldaAbsolute addr => Sys2Proof.Machine.execLdaAbsolute addr s
  | .ldxAbsolute => Sys2Proof.Machine.execLdxAbsolute s
  | .illegalAF => Sys2Proof.Machine.execIllegalAF s
  | .bcs d => Sys2Proof.Machine.execBcs d s
  | .ldaIndirectY ptr => Sys2Proof.Machine.execLdaIndirectY ptr s
  | .illegalB2 => Sys2Proof.Machine.execIllegalB2 s
  | .illegalB3 => Sys2Proof.Machine.execIllegalB3 s
  | .ldyZeroPageX => Sys2Proof.Machine.execLdyZeroPageX s
  | .ldaZeroPageX addr => Sys2Proof.Machine.execLdaZeroPageX addr s
  | .ldxZeroPageY => Sys2Proof.Machine.execLdxZeroPageY s
  | .illegalB7 => Sys2Proof.Machine.execIllegalB7 s
  | .clv => Sys2Proof.Machine.execClv s
  | .ldaAbsoluteY addr => Sys2Proof.Machine.execLdaAbsoluteY addr s
  | .tsx => Sys2Proof.Machine.execTsx s
  | .illegalBB => Sys2Proof.Machine.execIllegalBB s
  | .ldyAbsoluteX => Sys2Proof.Machine.execLdyAbsoluteX s
  | .ldaAbsoluteX addr => Sys2Proof.Machine.execLdaAbsoluteX addr s
  | .ldxAbsoluteY => Sys2Proof.Machine.execLdxAbsoluteY s
  | .illegalBF => Sys2Proof.Machine.execIllegalBF s
  | .cpyImmediate => Sys2Proof.Machine.execCpyImmediate s
  | .cmpIndirectX => Sys2Proof.Machine.execCmpIndirectX s
  | .illegalC2 => Sys2Proof.Machine.execIllegalC2 s
  | .illegalC3 => Sys2Proof.Machine.execIllegalC3 s
  | .cpyZeroPage => Sys2Proof.Machine.execCpyZeroPage s
  | .cmpZeroPage => Sys2Proof.Machine.execCmpZeroPage s
  | .decZeroPage => Sys2Proof.Machine.execDecZeroPage s
  | .illegalC7 => Sys2Proof.Machine.execIllegalC7 s
  | .iny => Sys2Proof.Machine.execIny s
  | .cmpImmediate => Sys2Proof.Machine.execCmpImmediate s
  | .dex => Sys2Proof.Machine.execDex s
  | .illegalCB => Sys2Proof.Machine.execIllegalCB s
  | .cpyAbsolute => Sys2Proof.Machine.execCpyAbsolute s
  | .cmpAbsolute => Sys2Proof.Machine.execCmpAbsolute s
  | .decAbsolute => Sys2Proof.Machine.execDecAbsolute s
  | .illegalCF => Sys2Proof.Machine.execIllegalCF s
  | .bne d => Sys2Proof.Machine.execBne d s
  | .cmpIndirectY => Sys2Proof.Machine.execCmpIndirectY s
  | .illegalD2 => Sys2Proof.Machine.execIllegalD2 s
  | .illegalD3 => Sys2Proof.Machine.execIllegalD3 s
  | .illegalD4 => Sys2Proof.Machine.execIllegalD4 s
  | .cmpZeroPageX => Sys2Proof.Machine.execCmpZeroPageX s
  | .decZeroPageX => Sys2Proof.Machine.execDecZeroPageX s
  | .illegalD7 => Sys2Proof.Machine.execIllegalD7 s
  | .cld => Sys2Proof.Machine.execCld s
  | .cmpAbsoluteY => Sys2Proof.Machine.execCmpAbsoluteY s
  | .illegalDA => Sys2Proof.Machine.execIllegalDA s
  | .illegalDB => Sys2Proof.Machine.execIllegalDB s
  | .illegalDC => Sys2Proof.Machine.execIllegalDC s
  | .cmpAbsoluteX => Sys2Proof.Machine.execCmpAbsoluteX s
  | .decAbsoluteX => Sys2Proof.Machine.execDecAbsoluteX s
  | .illegalDF => Sys2Proof.Machine.execIllegalDF s
  | .cpxImmediate => Sys2Proof.Machine.execCpxImmediate s
  | .sbcIndirectX => Sys2Proof.Machine.execSbcIndirectX s
  | .illegalE2 => Sys2Proof.Machine.execIllegalE2 s
  | .illegalE3 => Sys2Proof.Machine.execIllegalE3 s
  | .cpxZeroPage => Sys2Proof.Machine.execCpxZeroPage s
  | .sbcZeroPage => Sys2Proof.Machine.execSbcZeroPage s
  | .incZeroPage => Sys2Proof.Machine.execIncZeroPage s
  | .illegalE7 => Sys2Proof.Machine.execIllegalE7 s
  | .inx => Sys2Proof.Machine.execInx s
  | .sbcImmediate => Sys2Proof.Machine.execSbcImmediate s
  | .nop => Sys2Proof.Machine.execNop s
  | .illegalEB => Sys2Proof.Machine.execIllegalEB s
  | .cpxAbsolute => Sys2Proof.Machine.execCpxAbsolute s
  | .sbcAbsolute => Sys2Proof.Machine.execSbcAbsolute s
  | .incAbsolute => Sys2Proof.Machine.execIncAbsolute s
  | .illegalEF => Sys2Proof.Machine.execIllegalEF s
  | .beq d => Sys2Proof.Machine.execBeq d s
  | .sbcIndirectY => Sys2Proof.Machine.execSbcIndirectY s
  | .illegalF2 => Sys2Proof.Machine.execIllegalF2 s
  | .illegalF3 => Sys2Proof.Machine.execIllegalF3 s
  | .illegalF4 => Sys2Proof.Machine.execIllegalF4 s
  | .sbcZeroPageX => Sys2Proof.Machine.execSbcZeroPageX s
  | .incZeroPageX => Sys2Proof.Machine.execIncZeroPageX s
  | .illegalF7 => Sys2Proof.Machine.execIllegalF7 s
  | .sed => Sys2Proof.Machine.execSed s
  | .sbcAbsoluteY => Sys2Proof.Machine.execSbcAbsoluteY s
  | .illegalFA => Sys2Proof.Machine.execIllegalFA s
  | .illegalFB => Sys2Proof.Machine.execIllegalFB s
  | .illegalFC => Sys2Proof.Machine.execIllegalFC s
  | .sbcAbsoluteX => Sys2Proof.Machine.execSbcAbsoluteX s
  | .incAbsoluteX => Sys2Proof.Machine.execIncAbsoluteX s
  | .illegalFF => Sys2Proof.Machine.execIllegalFF s

end Sys2Proof.Machine
end

