-- ==== Sys2Proof/Machine/Fetch.lean ====
section
/-! DEFINITION. The fetch unit (40_execution_cycle.md R113): the instruction at the PC, its bytes at rising addresses that wrap
at 0xFFFF (10_state.md R25). -/

namespace Sys2Proof.Machine

/-- The three bytes from the PC on, as many as the longest instruction has (R81). -/
def fetchBytes (s : State) : List Byte := [s.mem.read s.pc, s.mem.read (s.pc + 1), s.mem.read (s.pc + 2)]

/-- The instruction at the PC: the opcode byte decoded, with the operand bytes that follow it (R111, R113). -/
def fetch (s : State) : Instr := decodeAt (s.mem.read s.pc) (s.mem.read (s.pc + 1)) (s.mem.read (s.pc + 2))

/-- Put an instruction, given as the number the opcode table numbers it by, where the next step fetches, on a core that is
Running. -/
def placeWord (s : State) (nbits w : Nat) : State :=
  (s.setMem (s.mem.writeBytes s.pc [tableByte nbits w 0, tableByte nbits w 1, tableByte nbits w 2])).setRunState .running

end Sys2Proof.Machine
end

