-- ==== Sys2Proof/Machine/Step.lean ====
section
/-! DEFINITION. One step (40_execution_cycle.md R111), and the placing of one instruction where the next step fetches it. -/

namespace Sys2Proof.Machine

/-- One step: fetch, decode and execute when Running (R111); in a terminal state no fetch is made and nothing changes (R116). -/
def step (s : State) : Host.Outcome State Fault Refusal :=
  match s.runState with
  | .running => exec (fetch s) s
  | .halted => .next s
  | .faulted _ => .next s

/-- s with an instruction where step fetches its next one (A7). -/
def State.withFetchWord (s : State) (nbits w : Nat) : State := placeWord s nbits w

end Sys2Proof.Machine
end

