-- ==== Sys2Proof/Machine/Assembly.lean ====
section
/-! DEFINITION. The assembler forms (30_encoding.md R90, R91): how an instruction is written, and the displacement an assembler
encodes for a branch target. The machine does not use this file. -/

namespace Sys2Proof.Machine

/-- One hexadecimal digit. -/
def hexDigit (n : Nat) : String := String.singleton (Nat.digitChar n).toUpper

/-- `nn`: two digits. -/
def hexByte (b : Byte) : String := hexDigit (b.toNat / 16) ++ hexDigit (b.toNat % 16)

/-- `nnnn`: four digits; "the absolute form of a zero-page address is written `$00nn`" (R90). -/
def hexWord (w : Address) : String := hexByte (highByte w) ++ hexByte (lowByte w)

/-- The mnemonic of an admitted kind; BRK is "spelled `BRK`" (R91). -/
def kindText : Kind → String
  | .lda => "LDA"
  | .sta => "STA"
  | .stx => "STX"
  | .sty => "STY"
  | .tax => "TAX"
  | .tay => "TAY"
  | .inx => "INX"
  | .iny => "INY"
  | .and => "AND"
  | .asl => "ASL"
  | .adc => "ADC"
  | .bcc => "BCC"
  | .bcs => "BCS"
  | .bne => "BNE"
  | .beq => "BEQ"
  | .bpl => "BPL"
  | .bmi => "BMI"
  | .bvc => "BVC"
  | .bvs => "BVS"
  | .brk => "BRK"

/-- The historical mnemonic of an unimplemented opcode (R84). -/
def unsupportedText : Unsupported → String
  | .bit => "BIT"
  | .clc => "CLC"
  | .cld => "CLD"
  | .cli => "CLI"
  | .clv => "CLV"
  | .cmp => "CMP"
  | .cpx => "CPX"
  | .cpy => "CPY"
  | .dec => "DEC"
  | .dex => "DEX"
  | .dey => "DEY"
  | .eor => "EOR"
  | .inc => "INC"
  | .jmp => "JMP"
  | .jsr => "JSR"
  | .ldx => "LDX"
  | .ldy => "LDY"
  | .lsr => "LSR"
  | .nop => "NOP"
  | .ora => "ORA"
  | .pha => "PHA"
  | .php => "PHP"
  | .pla => "PLA"
  | .plp => "PLP"
  | .rol => "ROL"
  | .ror => "ROR"
  | .rti => "RTI"
  | .rts => "RTS"
  | .sbc => "SBC"
  | .sec => "SEC"
  | .sed => "SED"
  | .sei => "SEI"
  | .tsx => "TSX"
  | .txa => "TXA"
  | .txs => "TXS"
  | .tya => "TYA"

/-- The operand forms of a memory operand (R90); the Indirect form, which no admitted opcode has, as R128 describes it (A20). -/
def memOperandText : MemOperand → String
  | .zeroPage a => "$" ++ hexByte a
  | .zeroPageX a => "$" ++ hexByte a ++ ",X"
  | .zeroPageY a => "$" ++ hexByte a ++ ",Y"
  | .absolute w => "$" ++ hexWord w
  | .absoluteX w => "$" ++ hexWord w ++ ",X"
  | .absoluteY w => "$" ++ hexWord w ++ ",Y"
  | .indirect w => "($" ++ hexWord w ++ ")"
  | .indirectX p => "($" ++ hexByte p ++ ",X)"
  | .indirectY p => "($" ++ hexByte p ++ "),Y"

/-- The operand form of a source operand (R90). -/
def sourceText : Source → String
  | .immediate v => "#$" ++ hexByte v
  | .memory m => memOperandText m

/-- An operation as assembler text; a branch at pc0 is written with its target address (R90). -/
def operationText (pc0 : Address) : Operation → String
  | .lda src => "LDA " ++ sourceText src
  | .and src => "AND " ++ sourceText src
  | .adc src => "ADC " ++ sourceText src
  | .sta dst => "STA " ++ memOperandText dst
  | .stx dst => "STX " ++ memOperandText dst
  | .sty dst => "STY " ++ memOperandText dst
  | .aslA => "ASL A"
  | .asl dst => "ASL " ++ memOperandText dst
  | .tax => "TAX"
  | .tay => "TAY"
  | .inx => "INX"
  | .iny => "INY"
  | .branch c d => kindText c.kind ++ " $" ++ hexWord (pc0 + 2 + sext16 d)
  | .brk => "BRK"
  | .unimplemented m => unsupportedText m
  | .illegal => "ILLEGAL"

/-- The instruction at pc0 as assembler text. -/
def assemblyText (pc0 : Address) (i : Instr) : String := operationText pc0 i.operation

/-- The displacement of a branch at pc0 to a target, "which must lie in -128..+127 as a signed value" (R90), or none. -/
def branchDisplacement (pc0 target : Address) : Option Int :=
  let d := (target - (pc0 + 2)).toInt
  if displacementFits d then some d else none

/-- The mnemonic an assembler reads: "`HLT` is accepted as a synonym" of BRK (R91). -/
def canonicalMnemonic (m : String) : String := if m = "HLT" then "BRK" else m

end Sys2Proof.Machine
end

