-- ==== Sys2Proof/Machine/Bus.lean ====
section
/-! DEFINITION. The accesses a step makes on the memory-bus port, in order (40_execution_cycle.md R114; 20_memory.md R50, R59).
No program can observe the order (R114); `step` does not use this file. -/

namespace Sys2Proof.Machine

/-- One access on the port: a 16-bit address, an 8-bit value and a direction (R50). -/
inductive BusAccess where
  | read (addr : Address)
  | write (addr : Address) (v : Byte)
  deriving DecidableEq, Repr

/-- What an access does to memory (R61): a read changes nothing, a write exactly its cell. -/
def BusAccess.apply (m : Memory) : BusAccess → Memory
  | .read _ => m
  | .write a v => m.write a v

/-- (2) of R114: the operand bytes at pc1, then pc1 + 1, as many as the mode has. -/
def operandAccesses (len : Nat) (s : State) : List BusAccess :=
  (List.range len).map fun k => .read (s.pc1 + BitVec.ofNat 16 k)

/-- The two reads of a zero-page pointer at p, low byte first (R114). -/
def zpPointerAccesses (p : Byte) : List BusAccess :=
  [.read (zext16 p), .read (zpPointerHigh Config.zpPointerWrap p)]

/-- (3) of R114: the pointer's low byte, then its high byte. -/
def pointerAccesses (o : MemOperand) (s : State) : List BusAccess :=
  match o with
  | .zeroPage _ => []
  | .zeroPageX _ => []
  | .zeroPageY _ => []
  | .absolute _ => []
  | .absoluteX _ => []
  | .absoluteY _ => []
  | .indirect w => [.read w, .read (w + 1)]
  | .indirectX p => zpPointerAccesses (p + s.x)
  | .indirectY p => zpPointerAccesses p

/-- (3) and (4) of R114 for an instruction that reads its operand. An immediate operand has been read with the operand bytes:
"Each access is made once" (92 D17, A14). -/
def sourceAccesses (src : Source) (s : State) : List BusAccess :=
  match src with
  | .immediate _ => []
  | .memory o => pointerAccesses o s ++ [.read (ea o s)]

/-- (3) and (5) of R114 for a store. -/
def storeAccesses (o : MemOperand) (v : Byte) (s : State) : List BusAccess := pointerAccesses o s ++ [.write (ea o s) v]

/-- (3) to (5) of R114 for each operation (R59). -/
def dataAccesses (o : Operation) (s : State) : List BusAccess :=
  match o with
  | .lda src => sourceAccesses src s
  | .and src => sourceAccesses src s
  | .adc src => sourceAccesses src s
  | .sta dst => storeAccesses dst s.a s
  | .stx dst => storeAccesses dst s.x s
  | .sty dst => storeAccesses dst s.y s
  | .aslA => []
  | .asl dst => pointerAccesses dst s ++ [.read (ea dst s), .write (ea dst s) (shl8 (loadByte dst s))]
  | .tax => []
  | .tay => []
  | .inx => []
  | .iny => []
  | .branch _ _ => []
  | .brk => []
  | .unimplemented _ => []
  | .illegal => []

/-- The accesses of running instruction i (R114): the opcode byte, the operand bytes, then the rest. "Faulting and halting steps
make access (1) only." -/
def instrAccesses (i : Instr) (s : State) : List BusAccess :=
  .read s.pc :: (operandAccesses i.operandLength s ++ dataAccesses i.operation s)

/-- The accesses of one step; none in a terminal state (R116). -/
def stepAccesses (s : State) : List BusAccess :=
  match s.runState with
  | .running => instrAccesses (fetch s) s
  | .halted => []
  | .faulted _ => []

end Sys2Proof.Machine
end

