-- ==== Sys2Proof/Machine/Run.lean ====
section
/-! DEFINITION. The run-to-completion entry point (40_execution_cycle.md R117), under fuel supplied by the host (92 D26), and a
step with a restricted set of admitted opcodes (00_scope.md R9, 92 D3). -/

namespace Sys2Proof.Machine

/-- "steps until `Halted` or `Faulted`" (R117). Out of fuel, the state stays Running (92 D26). -/
def run : Nat → State → Host.Outcome State Fault Refusal
  | 0, s => .next s
  | fuel + 1, s =>
    match s.runState with
    | .running =>
      match step s with
      | .next t => run fuel t
      | .fault r => .fault r
      | .refused r => .refused r
    | .halted => .next s
    | .faulted _ => .next s

/-- Is the instruction of the class `Admitted` (R80)? -/
def isAdmitted (i : Instr) : Bool :=
  match i.decodeClass with
  | .admitted _ _ _ => true
  | .unimplemented _ => false
  | .illegal => false

/-- A step of a core whose `ADMITTED` is the subset given (R9): "a removed opcode then raises Unimplemented" (92 D3). -/
def stepRestricted (admitted : Byte → Bool) (s : State) : Host.Outcome State Fault Refusal :=
  match s.runState with
  | .running =>
    if isAdmitted (fetch s) && !admitted (s.mem.read s.pc) then .next (s.raiseFault .unimplemented) else exec (fetch s) s
  | .halted => .next s
  | .faulted _ => .next s

end Sys2Proof.Machine
end

