-- ==== Sys2Proof/Machine/HostPort.lean ====
section
/-! DEFINITION. What the host can do to the core between steps (00_scope.md R19, 92 D22): load memory (20_memory.md R54, R58),
reset (70_reset_and_hazards.md R250, `State.hostReset`), boot (R254) and inspect (10_state.md R26). -/

namespace Sys2Proof.Machine

/-- `bulkCopy(addr, bytes)` (R58): the bytes at rising addresses, or `OutOfBounds` before any byte is written, the host keeping
the state it had. -/
def bulkCopy (addr : Address) (bytes : List Byte) (s : State) : Host.Outcome State Fault Refusal :=
  if addr.toNat + bytes.length > Config.memSize then .fault .outOfBounds
  else .next (s.setMem (s.mem.writeBytes addr bytes))

/-- `write16(addr, word)` (R54), by the host. -/
def hostWrite16 (addr w : Address) (s : State) : State := s.setMem (s.mem.write16 addr w)

/-- The boot sequence (R254) in the order it lists: construct, `bulkCopy`, `write16` of the vector, `reset`. `LOAD_ADDR` is the
host's (92 D10). -/
def boot (loadAddr : Address) (image : List Byte) : Host.Outcome State Fault Refusal :=
  match bulkCopy loadAddr image State.reset with
  | .next s => .next (hostWrite16 Config.resetVector loadAddr s).hostReset
  | .fault r => .fault r
  | .refused r => .refused r

/-- The boot sequence with `write16` before `bulkCopy`: R254 leaves the order of the two free, and over the vector the
two orders differ (A8). -/
def bootVectorFirst (loadAddr : Address) (image : List Byte) : Host.Outcome State Fault Refusal :=
  match bulkCopy loadAddr image (hostWrite16 Config.resetVector loadAddr State.reset) with
  | .next s => .next s.hostReset
  | .fault r => .fault r
  | .refused r => .refused r

/-- The boot of an image that itself covers the vector: it "sets the vector by its own bytes" (R254, A8). -/
def bootOwnVector (loadAddr : Address) (image : List Byte) : Host.Outcome State Fault Refusal :=
  match bulkCopy loadAddr image State.reset with
  | .next s => .next s.hostReset
  | .fault r => .fault r
  | .refused r => .refused r

/-- The status register as the host's accessor gives it (R26, R27). -/
def inspectP (s : State) : Byte := s.p.toByte

/-- The opcode byte at which a terminal state stopped, "the host can recover the byte as `MemRead(PC - 1, 1)`" (R221). -/
def stoppedAt (s : State) : Byte := s.mem.read (s.pc - 1)

end Sys2Proof.Machine
end

