-- ==== Sys2Proof/Safety.lean ====
section
/-! DEFINITION. What a run's end means (70_reset_and_hazards.md R263), and the invariant every reachable state meets
(10_state.md R35). -/

namespace Sys2Proof.Machine

/-- A terminal run state (R36, R110). -/
def State.isTerminal (s : State) : Bool := decide (s.runState ≠ .running)

/-- "It ends well when the run state becomes `Halted`" (R263): some number of steps from s ends in t, halted. -/
def EndsWell (s t : State) : Prop := ∃ fuel, run fuel s = .next t ∧ t.runState = .halted

/-- "It ends badly when the run state becomes `Faulted(reason)`" (R263). -/
def EndsBadly (s : State) (r : FaultReason) : Prop := ∃ fuel t, run fuel s = .next t ∧ t.runState = .faulted r

/-- A safe run: no number of steps ends it badly. -/
def SafeFrom (s : State) : Prop := ∀ r, ¬ EndsBadly s r

/-- The part of P that no admitted instruction writes is clear, and so is SP (R35). -/
def State.unwrittenClear (s : State) : Prop :=
  s.sp = 0 ∧ s.p.i = false ∧ s.p.d = false ∧ s.p.b = false ∧ s.p.u = false

/-- The invariant of the machine: R35, and memory in its canonical form. -/
def State.Inv (s : State) : Prop := s.mem.wf ∧ s.unwrittenClear

end Sys2Proof.Machine
end

