-- ==== Sys2Proof/Certificates/Slice0/Obligations.lean ====
section
/-! DEFINITION. The statements for the provers. The tables of R83, R86 and R87 are written out here a second time, from the rules,
so that the statements about them do not lean on the decoder's own map. -/

open Sys2Proof Sys2Proof.Machine

namespace Sys2Proof.Claims

/-- The table of R83: kind, mode, opcode byte, length in bytes (part 1). -/
def admittedTablePart1 : List (Kind × Mode × Byte × Nat) := [
  (.adc, .indirectX, 0x61, 2), (.adc, .zeroPage, 0x65, 2), (.adc, .immediate, 0x69, 2),
  (.adc, .absolute, 0x6D, 3), (.adc, .indirectY, 0x71, 2), (.adc, .zeroPageX, 0x75, 2),
  (.adc, .absoluteY, 0x79, 3), (.adc, .absoluteX, 0x7D, 3), (.and, .indirectX, 0x21, 2),
  (.and, .zeroPage, 0x25, 2), (.and, .immediate, 0x29, 2), (.and, .absolute, 0x2D, 3),
  (.and, .indirectY, 0x31, 2), (.and, .zeroPageX, 0x35, 2), (.and, .absoluteY, 0x39, 3),
  (.and, .absoluteX, 0x3D, 3), (.asl, .zeroPage, 0x06, 2), (.asl, .accumulator, 0x0A, 1),
  (.asl, .absolute, 0x0E, 3), (.asl, .zeroPageX, 0x16, 2)]

/-- The table of R83: kind, mode, opcode byte, length in bytes (part 2). -/
def admittedTablePart2 : List (Kind × Mode × Byte × Nat) := [
  (.asl, .absoluteX, 0x1E, 3), (.bcc, .relative, 0x90, 2), (.bcs, .relative, 0xB0, 2),
  (.beq, .relative, 0xF0, 2), (.bmi, .relative, 0x30, 2), (.bne, .relative, 0xD0, 2),
  (.bpl, .relative, 0x10, 2), (.brk, .implied, 0x00, 1), (.bvc, .relative, 0x50, 2),
  (.bvs, .relative, 0x70, 2), (.inx, .implied, 0xE8, 1), (.iny, .implied, 0xC8, 1),
  (.lda, .indirectX, 0xA1, 2), (.lda, .zeroPage, 0xA5, 2), (.lda, .immediate, 0xA9, 2),
  (.lda, .absolute, 0xAD, 3), (.lda, .indirectY, 0xB1, 2), (.lda, .zeroPageX, 0xB5, 2),
  (.lda, .absoluteY, 0xB9, 3), (.lda, .absoluteX, 0xBD, 3)]

/-- The table of R83: kind, mode, opcode byte, length in bytes (part 3). -/
def admittedTablePart3 : List (Kind × Mode × Byte × Nat) := [
  (.sta, .indirectX, 0x81, 2), (.sta, .zeroPage, 0x85, 2), (.sta, .absolute, 0x8D, 3),
  (.sta, .indirectY, 0x91, 2), (.sta, .zeroPageX, 0x95, 2), (.sta, .absoluteY, 0x99, 3),
  (.sta, .absoluteX, 0x9D, 3), (.stx, .zeroPage, 0x86, 2), (.stx, .absolute, 0x8E, 3),
  (.stx, .zeroPageY, 0x96, 2), (.sty, .zeroPage, 0x84, 2), (.sty, .absolute, 0x8C, 3),
  (.sty, .zeroPageX, 0x94, 2), (.tax, .implied, 0xAA, 1), (.tay, .implied, 0xA8, 1)]

/-- The table of R83: kind, mode, opcode byte, length in bytes. -/
def admittedTable : List (Kind × Mode × Byte × Nat) := admittedTablePart1 ++ admittedTablePart2 ++ admittedTablePart3

/-- The 96 bytes of R86 (part 1). -/
def unimplementedBytesPart1 : List Byte := [
  0x01, 0x05, 0x08, 0x09, 0x0D, 0x11, 0x15, 0x18, 0x19, 0x1D, 0x20, 0x24, 0x26, 0x28, 0x2A, 0x2C,
  0x2E, 0x36, 0x38, 0x3E, 0x40, 0x41, 0x45, 0x46, 0x48, 0x49, 0x4A, 0x4C, 0x4D, 0x4E, 0x51, 0x55,
  0x56, 0x58, 0x59, 0x5D, 0x5E, 0x60, 0x66, 0x68, 0x6A, 0x6C, 0x6E, 0x76, 0x78, 0x7E, 0x88, 0x8A]

/-- The 96 bytes of R86 (part 2). -/
def unimplementedBytesPart2 : List Byte := [
  0x98, 0x9A, 0xA0, 0xA2, 0xA4, 0xA6, 0xAC, 0xAE, 0xB4, 0xB6, 0xB8, 0xBA, 0xBC, 0xBE, 0xC0, 0xC1,
  0xC4, 0xC5, 0xC6, 0xC9, 0xCA, 0xCC, 0xCD, 0xCE, 0xD1, 0xD5, 0xD6, 0xD8, 0xD9, 0xDD, 0xDE, 0xE0,
  0xE1, 0xE4, 0xE5, 0xE6, 0xE9, 0xEA, 0xEC, 0xED, 0xEE, 0xF1, 0xF5, 0xF6, 0xF8, 0xF9, 0xFD, 0xFE]

/-- The 96 bytes of R86. -/
def unimplementedBytes : List Byte := unimplementedBytesPart1 ++ unimplementedBytesPart2

/-- The 105 bytes of R87 (part 1). -/
def illegalBytesPart1 : List Byte := [
  0x02, 0x03, 0x04, 0x07, 0x0B, 0x0C, 0x0F, 0x12, 0x13, 0x14, 0x17, 0x1A, 0x1B, 0x1C, 0x1F, 0x22,
  0x23, 0x27, 0x2B, 0x2F, 0x32, 0x33, 0x34, 0x37, 0x3A, 0x3B, 0x3C, 0x3F, 0x42, 0x43, 0x44, 0x47,
  0x4B, 0x4F, 0x52, 0x53, 0x54, 0x57, 0x5A, 0x5B, 0x5C, 0x5F, 0x62, 0x63, 0x64, 0x67, 0x6B, 0x6F]

/-- The 105 bytes of R87 (part 2). -/
def illegalBytesPart2 : List Byte := [
  0x72, 0x73, 0x74, 0x77, 0x7A, 0x7B, 0x7C, 0x7F, 0x80, 0x82, 0x83, 0x87, 0x89, 0x8B, 0x8F, 0x92,
  0x93, 0x97, 0x9B, 0x9C, 0x9E, 0x9F, 0xA3, 0xA7, 0xAB, 0xAF, 0xB2, 0xB3, 0xB7, 0xBB, 0xBF, 0xC2,
  0xC3, 0xC7, 0xCB, 0xCF, 0xD2, 0xD3, 0xD4, 0xD7, 0xDA, 0xDB, 0xDC, 0xDF, 0xE2, 0xE3, 0xE7, 0xEB]

/-- The 105 bytes of R87 (part 3). -/
def illegalBytesPart3 : List Byte := [
  0xEF, 0xF2, 0xF3, 0xF4, 0xF7, 0xFA, 0xFB, 0xFC, 0xFF]

/-- The 105 bytes of R87. -/
def illegalBytes : List Byte := illegalBytesPart1 ++ illegalBytesPart2 ++ illegalBytesPart3

/-- The byte a flag-recomputing instruction has written to its destination (R171), in the state t it answers. -/
def writtenByte (o : Operation) (s t : State) : Option Byte :=
  match o with
  | .lda _ => some t.a
  | .and _ => some t.a
  | .adc _ => some t.a
  | .aslA => some t.a
  | .tax => some t.x
  | .inx => some t.x
  | .tay => some t.y
  | .iny => some t.y
  | .asl dst => some (t.mem.read (ea dst s))
  | .sta _ => none
  | .stx _ => none
  | .sty _ => none
  | .branch _ _ => none
  | .brk => none
  | .unimplemented _ => none
  | .illegal => none

/-- The address an instruction stores to: the effective address its meaning uses (R59, R133); none where it stores nothing. -/
def storeAddress (o : Operation) (s : State) : Option Address :=
  match o with
  | .sta dst => some (ea dst s)
  | .stx dst => some (ea dst s)
  | .sty dst => some (ea dst s)
  | .asl dst => some (ea dst s)
  | _ => none

/-- The byte an instruction stores there: A, X, Y (R152 to R154) or the doubled byte (R177). -/
def storedByte (o : Operation) (s : State) : Option Byte :=
  match o with
  | .sta _ => some s.a
  | .stx _ => some s.x
  | .sty _ => some s.y
  | .asl dst => some (BitVec.ofNat 8 (2 * (s.mem.read (ea dst s)).toNat))
  | _ => none

/-- ASL and ADC write C (R28). -/
def writesC (o : Operation) : Bool :=
  match o with
  | .adc _ => true
  | .aslA => true
  | .asl _ => true
  | _ => false

/-- ADC alone writes V (R31). -/
def writesV (o : Operation) : Bool :=
  match o with
  | .adc _ => true
  | _ => false

/-- LDA, TAX, TAY, INX, INY, AND, ASL and ADC write Z and N (R29, R30). -/
def writesZN (o : Operation) : Bool :=
  match o with
  | .lda _ => true
  | .and _ => true
  | .adc _ => true
  | .aslA => true
  | .asl _ => true
  | .tax => true
  | .tay => true
  | .inx => true
  | .iny => true
  | _ => false

/-- LDA, AND, ASL A and ADC write A (R21). -/
def writesA (o : Operation) : Bool :=
  match o with
  | .lda _ => true
  | .and _ => true
  | .adc _ => true
  | .aslA => true
  | _ => false

/-- BRK and the two faults write the run state (R111). -/
def endsTheRun (o : Operation) : Bool :=
  match o with
  | .brk => true
  | .unimplemented _ => true
  | .illegal => true
  | _ => false

/-- A stopped state shows at PC - 1 a byte of the class that stopped it (R221, R263). It rests on PC = pc0 + 1 after a halt or
a fault (92 D12, A12). -/
def showsItsOpcode (s : State) : Prop :=
  (s.runState = .halted → stoppedAt s = 0x00) ∧
  (s.runState = .faulted .unimplemented → stoppedAt s ∈ unimplementedBytes) ∧
  (s.runState = .faulted .invalidInstruction → stoppedAt s ∈ illegalBytes)

/-- The image, placed at the load address, has a byte at b. -/
abbrev imageCovers (loadAddr : Address) (image : List Byte) (b : Address) : Prop :=
  loadAddr.toNat ≤ b.toNat ∧ b.toNat < loadAddr.toNat + image.length

/-- The byte at b of a zeroed memory that holds the image alone (R57, R58). -/
def imageByte (loadAddr : Address) (image : List Byte) (b : Address) : Byte :=
  if imageCovers loadAddr image b then image.getD (b.toNat - loadAddr.toNat) 0 else 0

/-- Two states that agree everywhere but in SP and the flags I, D, B and U, which no instruction reads. -/
def agreeWhereRead (s s' : State) : Prop :=
  s.pc = s'.pc ∧ s.a = s'.a ∧ s.x = s'.x ∧ s.y = s'.y ∧ s.p.c = s'.p.c ∧ s.p.z = s'.p.z ∧ s.p.v = s'.p.v ∧
    s.p.n = s'.p.n ∧ s.runState = s'.runState ∧ s.mem = s'.mem

end Sys2Proof.Claims

/-- O1. Decode of encode is the identity (30_encoding.md R80 to R83, R86, R87). Derived. -/
def Obligations.DecodeOfEncodeIsIdentity : Prop :=
  ∀ (i : Instr) (rest : List Byte), i.wellFormed = true → decode (encode i ++ rest) = .ok (i, rest)

/-- O2. Encode of decode is the identity (30_encoding.md R80, R81, R82). Derived. -/
def Obligations.EncodeOfDecodeIsIdentity : Prop :=
  ∀ (bytes rest : List Byte) (i : Instr), decode bytes = .ok (i, rest) →
    i.wellFormed = true ∧ encode i ++ rest = bytes

/-- O3. Words of the spec decode to their instructions (30_encoding.md R83, R84, 95_test_vectors.md section 2). Derived. -/
def Obligations.SpecWordsDecodeToTheirInstructions : Prop :=
  decode [0xA9, 0x05] = .ok (.ldaImmediate 0x05, []) ∧
  decode [0xBD, 0xF0, 0x12] = .ok (.ldaAbsoluteX 0x12F0, []) ∧
  decode [0x96, 0xFF] = .ok (.stxZeroPageY 0xFF, []) ∧
  decode [0x91, 0x10] = .ok (.staIndirectY 0x10, []) ∧
  decode [0xAA] = .ok (.tax, []) ∧
  decode [0xE8] = .ok (.inx, []) ∧
  decode [0x29, 0x3C] = .ok (.andImmediate 0x3C, []) ∧
  decode [0x0A] = .ok (.aslAccumulator, []) ∧
  decode [0x1E, 0x00, 0x02] = .ok (.aslAbsoluteX 0x0200, []) ∧
  decode [0x69, 0xFF] = .ok (.adcImmediate 0xFF, []) ∧
  decode [0xB0, 0xFB] = .ok (.bcs (-5), []) ∧
  decode [0x00] = .ok (.brk, []) ∧
  decode [0x4C, 0x00, 0x90] = .ok (.jmpAbsolute, [0x00, 0x90]) ∧
  decode [0x02] = .ok (.illegal02, [])

/-- O4. The admitted opcodes are the 55 rows of the table of R83 (30_encoding.md R80, R83, R89, 92_eei_decisions.md D2, D3, D4, D5). Derived. -/
def Obligations.AdmittedOpcodesAreTheTable : Prop :=
  Claims.admittedTable.length = 55 ∧
  ∀ (op b1 b2 : Byte) (k : Kind) (m : Mode) (len : Nat),
    (decodeAt op b1 b2).decodeClass = .admitted k m len ↔ (k, m, op, len + 1) ∈ Claims.admittedTable

/-- O5. The other bytes are the 96 unimplemented and the 105 illegal ones (30_encoding.md R86, R87, R88, 92_eei_decisions.md D11). Derived. -/
def Obligations.OtherOpcodesAreUnimplementedOrIllegal : Prop :=
  Claims.unimplementedBytes.length = 96 ∧ Claims.illegalBytes.length = 105 ∧
  ∀ op b1 b2 : Byte,
    ((∃ m, (decodeAt op b1 b2).decodeClass = .unimplemented m) ↔ op ∈ Claims.unimplementedBytes) ∧
    ((decodeAt op b1 b2).decodeClass = .illegal ↔ op ∈ Claims.illegalBytes)

/-- O6. No operand bit changes decoding (30_encoding.md R81, R89). Derived. -/
def Obligations.OpcodeByteAloneSelectsTheInstruction : Prop :=
  ∀ op b1 b2 c1 c2 : Byte,
    (decodeAt op b1 b2).decodeClass = (decodeAt op c1 c2).decodeClass ∧ opcodeOf (decodeAt op b1 b2) = op

/-- O7. A step runs the decoded instruction (40_execution_cycle.md R111, R113). Derived. -/
def Obligations.StepExecutesTheDecodedInstruction : Prop :=
  ∀ (s : State) (i : Instr) (rest : List Byte), s.runState = .running →
    decode [s.mem.read s.pc, s.mem.read (s.pc + 1), s.mem.read (s.pc + 2)] = .ok (i, rest) →
    step s = exec i s

/-- O8. A step in a terminal state changes nothing, and reset leaves every state Running (40_execution_cycle.md R110, R116, 60_exceptions.md R230, 70_reset_and_hazards.md R253, 92_eei_decisions.md D13). Derived. That a step in Halted or Faulted changes nothing is R116 (decision D13 of the spec, log entry A2, DEDUCED). -/
def Obligations.TerminalStatesAbsorbUntilReset : Prop :=
  ∀ s : State,
    ((s.runState = .halted ∨ ∃ r, s.runState = .faulted r) → step s = .next s) ∧
    s.hostReset.runState = .running

/-- O9. Every step answers a next state (30_encoding.md R80, 40_execution_cycle.md R111, R116, R118). Derived. -/
def Obligations.StepAlwaysAnswersANextState : Prop :=
  ∀ s : State, ∃ t, step s = .next t

/-- O10. The opcode byte decides how a step ends (40_execution_cycle.md R111, 60_exceptions.md R220, R221, R223, R227, 43_control_flow.md R210). Derived. -/
def Obligations.OpcodeByteDecidesTheRunState : Prop :=
  ∀ s t : State, s.runState = .running → step s = .next t →
    (t.runState = .halted ↔ s.mem.read s.pc = 0x00) ∧
    (t.runState = .faulted .unimplemented ↔ s.mem.read s.pc ∈ Claims.unimplementedBytes) ∧
    (t.runState = .faulted .invalidInstruction ↔ s.mem.read s.pc ∈ Claims.illegalBytes) ∧
    (t.runState = .running ↔
      s.mem.read s.pc ≠ 0x00 ∧ ∃ row ∈ Claims.admittedTable, row.2.2.1 = s.mem.read s.pc)

/-- O11. No admitted instruction faults (R224). -/
def Obligations.AdmittedInstructionsRaiseNothing : Prop :=
  ∀ (i : Instr) (k : Kind) (m : Mode) (len : Nat) (s : State),
    i.decodeClass = .admitted k m len → s.runState = .running →
    ∃ t, exec i s = .next t ∧ ∀ r, t.runState ≠ .faulted r

/-- O12. The next PC of a step is one of the four of R200 (43_control_flow.md R200, R201, 40_execution_cycle.md R112, R119). Derived. -/
def Obligations.NextPcMultiplexer : Prop :=
  ∀ s t : State, s.runState = .running → step s = .next t →
    t.pc = match (fetch s).operation with
      | .branch c d => if conditionHolds s.p c then s.pc + 2 + BitVec.ofInt 16 d else s.pc + 2
      | .brk => s.pc + 1
      | .unimplemented _ => s.pc + 1
      | .illegal => s.pc + 1
      | _ => s.pc + 1 + BitVec.ofNat 16 (fetch s).operandLength

/-- O13. LDA loads A and recomputes Z and N, in all eight modes (41_load_store_transfer.md R150, 40_execution_cycle.md R119, R133). Derived. -/
def Obligations.LdaLoadsTheAccumulator : Prop :=
  ∀ (i : Instr) (src : Source) (s : State), i.operation = .lda src →
    exec i s = .next { s with
      a := sourceValue src s
      p := { s.p with z := decide (sourceValue src s = 0), n := (sourceValue src s).getLsbD 7 }
      pc := s.pc + 1 + BitVec.ofNat 16 i.operandLength }

/-- O14. AND masks A and recomputes Z and N, in all eight modes (42_alu.md R174, 40_execution_cycle.md R119, R133). Derived. -/
def Obligations.AndMasksTheAccumulator : Prop :=
  ∀ (i : Instr) (src : Source) (s : State), i.operation = .and src →
    exec i s = .next { s with
      a := s.a &&& sourceValue src s
      p := { s.p with
        z := decide (s.a &&& sourceValue src s = 0), n := (s.a &&& sourceValue src s).getLsbD 7 }
      pc := s.pc + 1 + BitVec.ofNat 16 i.operandLength }

/-- O15. ADC adds the operand and the carry to A, in all eight modes (42_alu.md R180, R181, R186, 40_execution_cycle.md R119, R133). Derived. -/
def Obligations.AdcAddsWithCarry : Prop :=
  ∀ (i : Instr) (src : Source) (s : State), i.operation = .adc src →
    let sum := s.a.toNat + (sourceValue src s).toNat + s.p.c.toNat
    let r := BitVec.ofNat 8 sum
    exec i s = .next { s with
      a := r
      p := { s.p with
        c := decide (256 ≤ sum)
        v := decide (s.a.getLsbD 7 = (sourceValue src s).getLsbD 7 ∧ r.getLsbD 7 ≠ s.a.getLsbD 7)
        z := decide (r = 0), n := r.getLsbD 7 }
      pc := s.pc + 1 + BitVec.ofNat 16 i.operandLength }

/-- O16. ASL A doubles A modulo 256 (42_alu.md R175, R176, 40_execution_cycle.md R119). Derived. -/
def Obligations.AslShiftsTheAccumulator : Prop :=
  ∀ s : State,
    let r := BitVec.ofNat 8 (2 * s.a.toNat)
    exec .aslAccumulator s = .next { s with
      a := r
      p := { s.p with c := decide (128 ≤ s.a.toNat), z := decide (r = 0), n := r.getLsbD 7 }
      pc := s.pc + 1 }

/-- O17. ASL of memory doubles the byte at its effective address (42_alu.md R175, R177, 20_memory.md R52, 40_execution_cycle.md R119). Derived. -/
def Obligations.AslShiftsAMemoryByte : Prop :=
  ∀ (i : Instr) (dst : MemOperand) (s : State), i.operation = .asl dst → s.mem.wf →
    let v := s.mem.read (ea dst s)
    let r := BitVec.ofNat 8 (2 * v.toNat)
    ∃ t, exec i s = .next t ∧
      t.mem.read (ea dst s) = r ∧ (∀ b, b ≠ ea dst s → t.mem.read b = s.mem.read b) ∧
      t.p = { s.p with c := decide (128 ≤ v.toNat), z := decide (r = 0), n := r.getLsbD 7 } ∧
      t.pc = s.pc + 1 + BitVec.ofNat 16 i.operandLength ∧
      t.a = s.a ∧ t.x = s.x ∧ t.y = s.y ∧ t.sp = s.sp ∧ t.runState = s.runState

/-- O18. STA, STX and STY write one byte at their effective address (41_load_store_transfer.md R151 to R154, 20_memory.md R52, 40_execution_cycle.md R119, R133). Derived. -/
def Obligations.StoresWriteOneByteAtTheEffectiveAddress : Prop :=
  ∀ (i : Instr) (dst : MemOperand) (v : Byte) (s : State), s.mem.wf →
    (i.operation = .sta dst ∧ v = s.a ∨ i.operation = .stx dst ∧ v = s.x ∨ i.operation = .sty dst ∧ v = s.y) →
    ∃ t, exec i s = .next t ∧
      t.mem.read (ea dst s) = v ∧ (∀ b, b ≠ ea dst s → t.mem.read b = s.mem.read b) ∧
      t.pc = s.pc + 1 + BitVec.ofNat 16 i.operandLength ∧
      t.p = s.p ∧ t.a = s.a ∧ t.x = s.x ∧ t.y = s.y ∧ t.sp = s.sp ∧ t.runState = s.runState

/-- O19. TAX and TAY copy A and recompute Z and N (41_load_store_transfer.md R155, R156, R157). Derived. -/
def Obligations.TransfersCopyTheAccumulator : Prop :=
  ∀ s : State,
    exec .tax s = .next { s with
      x := s.a, p := { s.p with z := decide (s.a = 0), n := s.a.getLsbD 7 }, pc := s.pc + 1 } ∧
    exec .tay s = .next { s with
      y := s.a, p := { s.p with z := decide (s.a = 0), n := s.a.getLsbD 7 }, pc := s.pc + 1 }

/-- O20. INX and INY add one modulo 256 and recompute Z and N (42_alu.md R172, R173). Derived. -/
def Obligations.IncrementsWrapModulo256 : Prop :=
  ∀ s : State,
    exec .inx s = .next { s with
      x := BitVec.ofNat 8 ((s.x.toNat + 1) % 256)
      p := { s.p with z := decide (s.x.toNat = 255), n := decide (127 ≤ s.x.toNat ∧ s.x.toNat < 255) }
      pc := s.pc + 1 } ∧
    exec .iny s = .next { s with
      y := BitVec.ofNat 8 ((s.y.toNat + 1) % 256)
      p := { s.p with z := decide (s.y.toNat = 255), n := decide (127 ≤ s.y.toNat ∧ s.y.toNat < 255) }
      pc := s.pc + 1 }

/-- O21. The eight branches go to pc0 + 2 + d when their flag is as they ask (43_control_flow.md R201 to R209). Derived. -/
def Obligations.BranchesMoveThePcOnTheirFlag : Prop :=
  ∀ (s : State) (d : Int), -128 ≤ d → d ≤ 127 →
    let go := fun taken : Bool =>
      Host.Outcome.next (φ := Fault) (ρ := Refusal)
        { s with pc := BitVec.ofInt 16 (s.pc.toNat + 2 + if taken then d else 0) }
    exec (.bcc d) s = go (!s.p.c) ∧ exec (.bcs d) s = go s.p.c ∧
    exec (.bne d) s = go (!s.p.z) ∧ exec (.beq d) s = go s.p.z ∧
    exec (.bpl d) s = go (!s.p.n) ∧ exec (.bmi d) s = go s.p.n ∧
    exec (.bvc d) s = go (!s.p.v) ∧ exec (.bvs d) s = go s.p.v

/-- O22. BRK halts with PC = pc0 + 1 and writes nothing else (43_control_flow.md R210, 40_execution_cycle.md R112). Derived. -/
def Obligations.BrkHalts : Prop :=
  ∀ s : State, exec .brk s = .next { s with runState := .halted, pc := s.pc + 1 }

/-- O23. Each of the 96 unimplemented opcodes enters Faulted(Unimplemented) (60_exceptions.md R221, R229, 30_encoding.md R86). Derived. -/
def Obligations.UnimplementedOpcodesFault : Prop :=
  ∀ (i : Instr) (m : Unsupported) (s : State), i.decodeClass = .unimplemented m →
    exec i s = .next { s with runState := .faulted .unimplemented, pc := s.pc + 1 }

/-- O24. Each of the 105 illegal opcodes enters Faulted(InvalidInstruction) (60_exceptions.md R223, R229, 30_encoding.md R87). Derived. -/
def Obligations.IllegalOpcodesFault : Prop :=
  ∀ (i : Instr) (s : State), i.decodeClass = .illegal →
    exec i s = .next { s with runState := .faulted .invalidInstruction, pc := s.pc + 1 }

/-- O25. ZeroPage, ZeroPageX and the absolute modes resolve as stated (R122, R123, R125, R126, R127). -/
def Obligations.DirectModesResolve : Prop :=
  ∀ (pc1 : Address) (x y : Byte) (m : Memory),
    let op8 := (m.read pc1).toNat
    let word := 256 * (m.read (pc1 + 1)).toNat + (m.read pc1).toNat
    (∃ e, resolve .zeroPage pc1 x y m = some e ∧ e.toNat = op8 ∧ e.toNat ≤ 0xFF) ∧
    (∃ e, resolve .zeroPageX pc1 x y m = some e ∧ e.toNat = (op8 + x.toNat) % 256) ∧
    (∃ e, resolve .absolute pc1 x y m = some e ∧ e.toNat = word) ∧
    (∃ e, resolve .absoluteX pc1 x y m = some e ∧ e.toNat = (word + x.toNat) % 65536) ∧
    (∃ e, resolve .absoluteY pc1 x y m = some e ∧ e.toNat = (word + y.toNat) % 65536) ∧
    Mode.zeroPage.operandLength = 1 ∧ Mode.zeroPageX.operandLength = 1 ∧ Mode.absolute.operandLength = 2 ∧
    Mode.absoluteX.operandLength = 2 ∧ Mode.absoluteY.operandLength = 2

/-- O26. ZeroPageY, Indirect, IndirectX and IndirectY resolve as stated (40_execution_cycle.md R124, R128 to R130, 20_memory.md R53, 92_eei_decisions.md D6, D7). Derived. -/
def Obligations.PointerModesResolve : Prop :=
  ∀ (pc1 : Address) (x y : Byte) (m : Memory),
    let op8 := (m.read pc1).toNat
    let at' := fun n : Nat => (m.read (BitVec.ofNat 16 n)).toNat
    let zpWord := fun p : Nat => 256 * at' ((p + 1) % 256) + at' p
    let ptr := 256 * (m.read (pc1 + 1)).toNat + (m.read pc1).toNat
    (∃ e, resolve .zeroPageY pc1 x y m = some e ∧ e.toNat = (op8 + y.toNat) % 256) ∧
    (∃ e, resolve .indirect pc1 x y m = some e ∧ e.toNat = 256 * at' ((ptr + 1) % 65536) + at' ptr) ∧
    (∃ e, resolve .indirectX pc1 x y m = some e ∧ e.toNat = zpWord ((op8 + x.toNat) % 256)) ∧
    (∃ e, resolve .indirectY pc1 x y m = some e ∧ e.toNat = (zpWord op8 + y.toNat) % 65536)

/-- O27. The operand an instruction carries gives the address the resolver reads from memory (40_execution_cycle.md R120, R131, R132, 30_encoding.md R82). Derived. -/
def Obligations.InstructionOperandsAgreeWithTheResolver : Prop :=
  ∀ (s : State) (mode : Mode), (fetch s).decodeClass.mode = some mode →
    resolve mode (s.pc + 1) s.x s.y s.mem = effectiveAddress (fetch s).operation s

/-- O28. LDA, AND and ADC read the one byte at their effective address, whatever the mode (40_execution_cycle.md R121, R133). Derived. -/
def Obligations.OperandReadsTheByteAtItsAddress : Prop :=
  ∀ (s : State) (src : Source),
    ((fetch s).operation = .lda src ∨ (fetch s).operation = .and src ∨ (fetch s).operation = .adc src) →
    ∃ e, resolve src.mode (s.pc + 1) s.x s.y s.mem = some e ∧ sourceValue src s = s.mem.read e

/-- O29. The Zero and Negative law of the flag-recomputing instructions (R171). -/
def Obligations.ZeroNegativeLaw : Prop :=
  ∀ (i : Instr) (s t : State) (b : Byte), s.mem.wf → exec i s = .next t →
    Claims.writtenByte i.operation s t = some b →
    t.p.z = decide (b = 0) ∧ t.p.n = decide (b &&& 0x80 ≠ 0)

/-- O30. The five ALU functions, on numbers (42_alu.md R170, R181). Derived. -/
def Obligations.AluFunctionsOnNumbers : Prop :=
  ∀ (a m : Byte) (cin : Bool),
    (inc8 a).toNat = (a.toNat + 1) % 256 ∧
    (∀ k, (and8 a m).getLsbD k = (a.getLsbD k && m.getLsbD k)) ∧
    (shl8 a).toNat = 2 * a.toNat % 256 ∧ shl8Carry a = decide (128 ≤ a.toNat) ∧
    (adc8 a m cin).toNat = (a.toNat + m.toNat + cin.toNat) % 256 ∧
    adc8Carry a m cin = decide (256 ≤ a.toNat + m.toNat + cin.toNat) ∧
    isZero a = decide (a.toNat = 0) ∧ isNegative a = decide (128 ≤ a.toNat)

/-- O31. V of ADC is set exactly when the signed sum is out of range (42_alu.md R180, R182, 90_conflicts.md C5). Derived. -/
def Obligations.OverflowIsSignedOverflow : Prop :=
  ∀ (a m : Byte) (cin : Bool),
    (adc8Overflow a m cin = true ↔
      a.toInt + m.toInt + cin.toNat < -128 ∨ 127 < a.toInt + m.toInt + cin.toNat) ∧
    adc8Overflow a m cin = ((a ^^^ adc8 a m cin) &&& (m ^^^ adc8 a m cin)).getLsbD 7

/-- O32. Each flag changes by no instruction but those R27 names (10_state.md R27 to R34, 90_conflicts.md C8). Derived. -/
def Obligations.FlagsChangeOnlyByTheirWriters : Prop :=
  ∀ (i : Instr) (s t : State), exec i s = .next t →
    (Claims.writesC i.operation = false → t.p.c = s.p.c) ∧
    (Claims.writesV i.operation = false → t.p.v = s.p.v) ∧
    (Claims.writesZN i.operation = false → t.p.z = s.p.z ∧ t.p.n = s.p.n) ∧
    t.p.i = s.p.i ∧ t.p.d = s.p.d ∧ t.p.b = s.p.b ∧ t.p.u = s.p.u

/-- O33. A, X, Y, SP, the run state and memory change by no instruction but those their rules name (10_state.md R21 to R24, R36, 20_memory.md R59). Derived. -/
def Obligations.RegistersChangeOnlyByTheirWriters : Prop :=
  ∀ (i : Instr) (s t : State), exec i s = .next t →
    (Claims.writesA i.operation = false → t.a = s.a) ∧
    (i.operation ≠ .tax → i.operation ≠ .inx → t.x = s.x) ∧
    (i.operation ≠ .tay → i.operation ≠ .iny → t.y = s.y) ∧
    t.sp = s.sp ∧
    (Claims.endsTheRun i.operation = false → t.runState = s.runState) ∧
    (Claims.storeAddress i.operation s = none → t.mem = s.mem)

/-- O34. Memory changes at most at the one byte the instruction stores to (20_memory.md R52, R59, R61). Derived. -/
def Obligations.MemoryChangesOnlyAtTheStoreAddress : Prop :=
  ∀ (i : Instr) (s t : State) (b : Address), exec i s = .next t →
    Claims.storeAddress i.operation s ≠ some b → t.mem.read b = s.mem.read b

/-- O35. SP and the flags I, D, B and U influence nothing (10_state.md R24, R32, R33, R34, 42_alu.md R186). Derived. -/
def Obligations.UnusedStateIsNeverRead : Prop :=
  ∀ s s' t t' : State, Claims.agreeWhereRead s s' → step s = .next t → step s' = .next t' →
    Claims.agreeWhereRead t t'

/-- O36. P as a byte has C Z I D B U V N in bits 0 to 7 (10_state.md R27, 92_eei_decisions.md D8). Derived. -/
def Obligations.StatusByteLayout : Prop :=
  (∀ p : Flags,
    p.toByte.getLsbD 0 = p.c ∧ p.toByte.getLsbD 1 = p.z ∧ p.toByte.getLsbD 2 = p.i ∧ p.toByte.getLsbD 3 = p.d ∧
    p.toByte.getLsbD 4 = p.b ∧ p.toByte.getLsbD 5 = p.u ∧ p.toByte.getLsbD 6 = p.v ∧ p.toByte.getLsbD 7 = p.n ∧
    Flags.ofByte p.toByte = p) ∧
  ∀ w : Byte, (Flags.ofByte w).toByte = w

/-- O37. A byte write sets its cell and changes no other (R52). -/
def Obligations.ByteWriteSetsOneCell : Prop :=
  ∀ (m : Memory) (a : Address) (v : Byte), m.wf →
    (m.write a v).read a = v ∧ ∀ b, b ≠ a → (m.write a v).read b = m.read b

/-- O38. A word written is read back, little-endian, at the top of the space too (20_memory.md R53, R54, R55, 92_eei_decisions.md D32). Derived. -/
def Obligations.WordReadAfterWordWrite : Prop :=
  ∀ (m : Memory) (a w : Address), m.wf →
    ((m.write16 a w).read a).toNat = w.toNat % 256 ∧
    ((m.write16 a w).read (BitVec.ofNat 16 ((a.toNat + 1) % 65536))).toNat = w.toNat / 256 ∧
    (∀ b, b ≠ a → b ≠ a + 1 → (m.write16 a w).read b = m.read b) ∧
    (m.write16 a w).read16 a = w

/-- O39. Memories in canonical form that read alike are equal (20_memory.md R50, R51, R57). Derived. -/
def Obligations.MemoryIsDeterminedByItsReads : Prop :=
  ∀ m m' : Memory, m.wf → m'.wf → (∀ a : Address, m.read a = m'.read a) → m = m'

/-- O40. bulkCopy loads the whole image or reports OutOfBounds (20_memory.md R58, 60_exceptions.md R222, 92_eei_decisions.md D14). Derived. -/
def Obligations.BulkCopyLoadsOrRefuses : Prop :=
  ∀ (addr : Address) (bytes : List Byte) (s : State), s.mem.wf →
    (65536 < addr.toNat + bytes.length → bulkCopy addr bytes s = .fault .outOfBounds) ∧
    (addr.toNat + bytes.length ≤ 65536 → ∃ t, bulkCopy addr bytes s = .next t ∧ t = { s with mem := t.mem } ∧
      ∀ b : Address, t.mem.read b =
        if addr.toNat ≤ b.toNat ∧ b.toNat < addr.toNat + bytes.length
        then bytes.getD (b.toNat - addr.toNat) 0 else s.mem.read b)

/-- O41. Reset zeroes the registers, loads PC from the vector and keeps memory (70_reset_and_hazards.md R250, R251, 92_eei_decisions.md D9, D24, D25). Derived. -/
def Obligations.ResetZeroesTheRegistersAndLoadsTheVector : Prop :=
  ∀ s : State,
    s.hostReset.a = 0 ∧ s.hostReset.x = 0 ∧ s.hostReset.y = 0 ∧ s.hostReset.sp = 0 ∧ s.hostReset.p.toByte = 0x00 ∧
    s.hostReset.runState = .running ∧ s.hostReset.mem = s.mem ∧
    s.hostReset.pc.toNat = 256 * (s.mem.read 0xFFFD).toNat + (s.mem.read 0xFFFC).toNat

/-- O42. A new core is what reset leaves on zeroed memory, and its first step halts (70_reset_and_hazards.md R252, 43_control_flow.md R210, 92_eei_decisions.md D29). Derived. -/
def Obligations.NewCoreHaltsAtAddressZero : Prop :=
  (∀ s : State, s.mem = [] → s.hostReset = State.reset) ∧ State.reset.pc = 0x0000 ∧
  step State.reset = .next { State.reset with pc := 0x0001, runState := .halted }

/-- O43. The boot sequence leaves what a program may rely on (70_reset_and_hazards.md R254, R255, 92_eei_decisions.md D10). Derived. -/
def Obligations.BootStartsTheImage : Prop :=
  ∀ (loadAddr : Address) (image : List Byte), loadAddr.toNat + image.length ≤ 65536 →
    ¬ Claims.imageCovers loadAddr image 0xFFFC → ¬ Claims.imageCovers loadAddr image 0xFFFD →
    ∃ t, boot loadAddr image = .next t ∧ t.pc = loadAddr ∧ t.a = 0 ∧ t.x = 0 ∧ t.y = 0 ∧ t.sp = 0 ∧
      t.p = Flags.clear ∧ t.runState = .running ∧ t.mem.read16 Config.resetVector = loadAddr ∧
      ∀ b : Address, b ≠ 0xFFFC → b ≠ 0xFFFD → t.mem.read b = Claims.imageByte loadAddr image b

/-- O44. Every step keeps SP = 0, I = D = B = U = 0 and memory in canonical form (10_state.md R35, 20_memory.md R50). Derived. -/
def Obligations.StepKeepsTheInvariant : Prop :=
  ∀ s t : State, s.Inv → step s = .next t → t.Inv

/-- O45. The new core and every reset meet the invariant (10_state.md R35, 70_reset_and_hazards.md R250, R252). Derived. -/
def Obligations.ResetMeetsTheInvariant : Prop :=
  State.reset.Inv ∧ ∀ s : State, s.mem.wf → s.hostReset.Inv

/-- O46. The accesses of a step, applied in order, give its memory (40_execution_cycle.md R114, 20_memory.md R50, R59, R61). Derived. -/
def Obligations.BusWritesMakeTheNextMemory : Prop :=
  ∀ s t : State, step s = .next t →
    (stepAccesses s).foldl BusAccess.apply s.mem = t.mem ∧ (stepAccesses s).length ≤ 7 ∧
    (s.runState = .running → (stepAccesses s).head? = some (.read s.pc))

/-- O47. A halting or faulting step makes the opcode read only (40_execution_cycle.md R114, R116, 60_exceptions.md R229). Derived. -/
def Obligations.StoppingStepsReadTheOpcodeOnly : Prop :=
  ∀ s t : State, step s = .next t →
    (s.runState = .running → t.runState ≠ .running → stepAccesses s = [.read s.pc]) ∧
    (s.runState = .running → 1 + (fetch s).operandLength ≤ (stepAccesses s).length) ∧
    (s.runState ≠ .running → stepAccesses s = [])

/-- O48. A store is seen by the next fetch, in the opcode and in the operand bytes (20_memory.md R68, 70_reset_and_hazards.md R261). Derived. -/
def Obligations.StoreIsSeenByTheNextFetch : Prop :=
  ∀ (s t : State) (e : Address) (v : Byte), s.runState = .running → s.mem.wf →
    Claims.storeAddress (fetch s).operation s = some e → Claims.storedByte (fetch s).operation s = some v →
    step s = .next t →
    let seen := fun a : Address => if a = e then v else s.mem.read a
    (∀ p : Address, fetch { t with pc := p } = decodeAt (seen p) (seen (p + 1)) (seen (p + 2))) ∧
    t.pc = s.pc + 1 + BitVec.ofNat 16 (fetch s).operandLength ∧
    step t = exec (decodeAt (seen t.pc) (seen (t.pc + 1)) (seen (t.pc + 2))) t ∧
    (t.pc = e → opcodeOf (fetch t) = v)

/-- O49. Fuel beyond a terminal state changes nothing (40_execution_cycle.md R116, R117). Derived. -/
def Obligations.MoreFuelAfterTheEndChangesNothing : Prop :=
  ∀ (s t : State) (n k : Nat), run n s = .next t → t.runState ≠ .running → run (n + k) s = .next t

/-- O50. The run-to-completion entry point is repeated stepping (40_execution_cycle.md R116, R117, 92_eei_decisions.md D13, D26). Derived. -/
def Obligations.RunIsStepsOfTheCore : Prop :=
  ∀ (n : Nat) (s : State), run n s = Host.Core.run core n s

/-- O51. A run that stops shows at PC - 1 the byte that stopped it (70_reset_and_hazards.md R263, 60_exceptions.md R221, 43_control_flow.md R210, 40_execution_cycle.md R112, 92_eei_decisions.md D12). Derived. It rests on PC = pc0 + 1 after a halt or a fault (decision D12 of the spec, log entry A12, DEDUCED). -/
def Obligations.StoppedRunShowsItsOpcode : Prop :=
  ∀ (n : Nat) (s t : State), s.runState = .running → run n s = .next t →
    (t.runState = .halted → stoppedAt t = 0x00) ∧
    (t.runState = .faulted .unimplemented → stoppedAt t ∈ Claims.unimplementedBytes) ∧
    (t.runState = .faulted .invalidInstruction → stoppedAt t ∈ Claims.illegalBytes)

/-- O52. A core with fewer admitted opcodes faults Unimplemented on the removed ones (00_scope.md R9, 92_eei_decisions.md D3). Derived. -/
def Obligations.RestrictedAdmissionFaultsUnimplemented : Prop :=
  ∀ (admitted : Byte → Bool) (s : State),
    (s.runState = .running → isAdmitted (fetch s) = true → admitted (s.mem.read s.pc) = false →
      stepRestricted admitted s = .next { s with runState := .faulted .unimplemented, pc := s.pc + 1 }) ∧
    ((s.runState ≠ .running ∨ isAdmitted (fetch s) = false ∨ admitted (s.mem.read s.pc) = true) →
      stepRestricted admitted s = step s)

/-- O53. The displacement an assembler encodes reaches its target (30_encoding.md R90, 43_control_flow.md R201). Derived. -/
def Obligations.AssembledBranchReachesItsTarget : Prop :=
  (∀ (pc0 target : Address) (d : Int), branchDisplacement pc0 target = some d →
    -128 ≤ d ∧ d ≤ 127 ∧ BitVec.ofInt 16 (pc0.toNat + 2 + d) = target) ∧
  ∀ (pc0 : Address) (d : Int), -128 ≤ d → d ≤ 127 →
    branchDisplacement pc0 (BitVec.ofInt 16 (pc0.toNat + 2 + d)) = some d

/-- O54. An image that covers the reset vector sets it by its own bytes (70_reset_and_hazards.md R250, R254, R255, 20_memory.md R57, R58). Derived. -/
def Obligations.BootFollowsTheImagesOwnVector : Prop :=
  ∀ (loadAddr : Address) (image : List Byte), loadAddr.toNat + image.length ≤ 65536 →
    ∃ t, bootOwnVector loadAddr image = .next t ∧
      t.pc.toNat = 256 * (Claims.imageByte loadAddr image 0xFFFD).toNat + (Claims.imageByte loadAddr image 0xFFFC).toNat ∧
      t.a = 0 ∧ t.x = 0 ∧ t.y = 0 ∧ t.sp = 0 ∧ t.p = Flags.clear ∧ t.runState = .running ∧
      ∀ b : Address, t.mem.read b = Claims.imageByte loadAddr image b

/-- O55. For an image beside the reset vector the order of the copy and of the vector write is free; over both its bytes the vector-first order takes the image's (70_reset_and_hazards.md R254). Derived. Over the vector the two orders differ, and which one boot takes is the model's choice (log entry A8, DESIGN CHOICE). -/
def Obligations.BootOrderIsFreeBesideTheVector : Prop :=
  ∀ (loadAddr : Address) (image : List Byte), loadAddr.toNat + image.length ≤ 65536 →
    (¬ Claims.imageCovers loadAddr image 0xFFFC → ¬ Claims.imageCovers loadAddr image 0xFFFD →
      bootVectorFirst loadAddr image = boot loadAddr image) ∧
    (Claims.imageCovers loadAddr image 0xFFFC → Claims.imageCovers loadAddr image 0xFFFD →
      bootVectorFirst loadAddr image = bootOwnVector loadAddr image)

/-- O56. Every step keeps: a stopped state shows at PC - 1 a byte of the class that stopped it (70_reset_and_hazards.md R263, 60_exceptions.md R221, R223, 43_control_flow.md R210, 40_execution_cycle.md R112, R116, 92_eei_decisions.md D12, D13). Derived. It rests on decisions D12 and D13 of the spec (log entries A12 and A2, DEDUCED). -/
def Obligations.StepKeepsTheStoppingByteShown : Prop :=
  ∀ s t : State, Claims.showsItsOpcode s → step s = .next t → Claims.showsItsOpcode t

/-- O57. The new core and every reset meet the invariant of StepKeepsTheStoppingByteShown (70_reset_and_hazards.md R250, R252, 40_execution_cycle.md R110). Derived. -/
def Obligations.ResetStartsTheStoppingByteInvariant : Prop :=
  Claims.showsItsOpcode State.reset ∧ ∀ s : State, Claims.showsItsOpcode s.hostReset

/-- O58. What either order of the boot writes leaves in memory and in the PC, for any image (70_reset_and_hazards.md R250, R254, 20_memory.md R54, R58). Derived. Which order boot takes is the model's choice (log entry A8, DESIGN CHOICE). -/
def Obligations.BootVectorUnderEitherOrder : Prop :=
  ∀ (loadAddr : Address) (image : List Byte), loadAddr.toNat + image.length ≤ 65536 →
    let vectorByte := fun b : Address =>
      if b = 0xFFFC then loadAddr.toNat % 256 else if b = 0xFFFD then loadAddr.toNat / 256 else 0
    let vectorLast := fun b : Address =>
      if b = 0xFFFC ∨ b = 0xFFFD then vectorByte b else (Claims.imageByte loadAddr image b).toNat
    let imageLast := fun b : Address =>
      if Claims.imageCovers loadAddr image b then (Claims.imageByte loadAddr image b).toNat else vectorByte b
    ∃ t u, boot loadAddr image = .next t ∧ bootVectorFirst loadAddr image = .next u ∧
      (∀ b : Address, (t.mem.read b).toNat = vectorLast b) ∧ t.pc = loadAddr ∧
      (∀ b : Address, (u.mem.read b).toNat = imageLast b) ∧
      u.pc.toNat = 256 * imageLast 0xFFFD + imageLast 0xFFFC ∧
      t = { State.reset with pc := t.pc, mem := t.mem } ∧ u = { State.reset with pc := u.pc, mem := u.mem }
end

