-- ==== Sys2Proof/Laws/Decode.lean ====
section
/-! SUPPORT. The decoder on a list that is long enough, and on the bytes a step fetches. -/

namespace Sys2Proof

/-- With two bytes after the opcode at hand, the decoder answers the row's instruction and leaves the bytes the row does not
take. -/
theorem decode_of_three (op b1 b2 : Byte) (rest : List Byte) :
    decode (op :: b1 :: b2 :: rest) =
      .ok (decodeAt op b1 b2, (b1 :: b2 :: rest).drop (opcodeRow op).operandLength) := by
  cases h : opcodeRow op <;> simp [decode, decodeAt, h, Row.take, Row.build, Row.operandLength]

/-- What a step fetches is what the decoder reads from the bytes at the PC. -/
theorem decode_fetchBytes (s : Machine.State) :
    ∃ rest, decode (Machine.fetchBytes s) = .ok (Machine.fetch s, rest) :=
  ⟨_, decode_of_three _ _ _ []⟩

/-- The low byte of `{h, l}`. -/
@[simp] theorem lowByte_wordOf (h l : Byte) : lowByte (wordOf h l) = l := by
  simp only [lowByte, wordOf, BitVec.setWidth_append, Nat.le_refl, BitVec.setWidth_eq, dite_true]

/-- `{h, l}` is h * 256 + l (R10). -/
theorem wordOf_toNat (h l : Byte) : (wordOf h l).toNat = h.toNat * 256 + l.toNat := by
  have hl := l.isLt
  rw [wordOf, BitVec.toNat_append, ← Nat.shiftLeft_add_eq_or_of_lt hl, Nat.shiftLeft_eq]

/-- The low byte of a word (R10). -/
theorem lowByte_toNat (w : Address) : (lowByte w).toNat = w.toNat % 256 := by
  simp [lowByte, BitVec.toNat_setWidth]

/-- The high byte of a word (R10). -/
theorem highByte_toNat (w : Address) : (highByte w).toNat = w.toNat / 256 := by
  have hw := w.isLt
  simp only [highByte, BitVec.toNat_setWidth, BitVec.toNat_ushiftRight, Nat.shiftRight_eq_div_pow]
  omega

/-- The high byte of `{h, l}`. -/
@[simp] theorem highByte_wordOf (h l : Byte) : highByte (wordOf h l) = h := by
  apply BitVec.eq_of_toNat_eq
  have hl := l.isLt
  rw [highByte_toNat, wordOf_toNat]
  omega

/-- A word is its two bytes. -/
@[simp] theorem wordOf_bytes (w : Address) : wordOf (highByte w) (lowByte w) = w := by
  apply BitVec.eq_of_toNat_eq
  rw [wordOf_toNat, highByte_toNat, lowByte_toNat]
  omega

/-- A displacement that fits survives its byte. -/
theorem displacementOf_byte (d : Int) (h : displacementFits d = true) : displacementOf (displacementByte d) = d := by
  simp only [displacementFits, Bool.and_eq_true, decide_eq_true_eq] at h
  simp only [displacementOf, displacementByte, BitVec.toInt_ofInt, Int.bmod_def]
  omega

/-- The displacement a byte stands for fits. -/
theorem displacementFits_of (b : Byte) : displacementFits (displacementOf b) = true := by
  have h1 := BitVec.le_toInt b
  have h2 := BitVec.toInt_lt (x := b)
  have h3 : -128 ≤ b.toInt := by omega
  have h4 : b.toInt ≤ 127 := by omega
  simp [displacementFits, displacementOf, h3, h4]

/-- A byte survives the displacement it stands for. -/
@[simp] theorem displacementByte_of (b : Byte) : displacementByte (displacementOf b) = b := by
  simp [displacementByte, displacementOf]

/-- The decoder's row of each instruction: the row waits for the operand the instruction carries. -/
def rowOf : Instr → Row
  | .brk => .one .brk
  | .oraIndirectX => .one .oraIndirectX
  | .illegal02 => .one .illegal02
  | .illegal03 => .one .illegal03
  | .illegal04 => .one .illegal04
  | .oraZeroPage => .one .oraZeroPage
  | .aslZeroPage _ => .two .aslZeroPage
  | .illegal07 => .one .illegal07
  | .php => .one .php
  | .oraImmediate => .one .oraImmediate
  | .aslAccumulator => .one .aslAccumulator
  | .illegal0B => .one .illegal0B
  | .illegal0C => .one .illegal0C
  | .oraAbsolute => .one .oraAbsolute
  | .aslAbsolute _ => .three .aslAbsolute
  | .illegal0F => .one .illegal0F
  | .bpl _ => .relative .bpl
  | .oraIndirectY => .one .oraIndirectY
  | .illegal12 => .one .illegal12
  | .illegal13 => .one .illegal13
  | .illegal14 => .one .illegal14
  | .oraZeroPageX => .one .oraZeroPageX
  | .aslZeroPageX _ => .two .aslZeroPageX
  | .illegal17 => .one .illegal17
  | .clc => .one .clc
  | .oraAbsoluteY => .one .oraAbsoluteY
  | .illegal1A => .one .illegal1A
  | .illegal1B => .one .illegal1B
  | .illegal1C => .one .illegal1C
  | .oraAbsoluteX => .one .oraAbsoluteX
  | .aslAbsoluteX _ => .three .aslAbsoluteX
  | .illegal1F => .one .illegal1F
  | .jsr => .one .jsr
  | .andIndirectX _ => .two .andIndirectX
  | .illegal22 => .one .illegal22
  | .illegal23 => .one .illegal23
  | .bitZeroPage => .one .bitZeroPage
  | .andZeroPage _ => .two .andZeroPage
  | .rolZeroPage => .one .rolZeroPage
  | .illegal27 => .one .illegal27
  | .plp => .one .plp
  | .andImmediate _ => .two .andImmediate
  | .rolAccumulator => .one .rolAccumulator
  | .illegal2B => .one .illegal2B
  | .bitAbsolute => .one .bitAbsolute
  | .andAbsolute _ => .three .andAbsolute
  | .rolAbsolute => .one .rolAbsolute
  | .illegal2F => .one .illegal2F
  | .bmi _ => .relative .bmi
  | .andIndirectY _ => .two .andIndirectY
  | .illegal32 => .one .illegal32
  | .illegal33 => .one .illegal33
  | .illegal34 => .one .illegal34
  | .andZeroPageX _ => .two .andZeroPageX
  | .rolZeroPageX => .one .rolZeroPageX
  | .illegal37 => .one .illegal37
  | .sec => .one .sec
  | .andAbsoluteY _ => .three .andAbsoluteY
  | .illegal3A => .one .illegal3A
  | .illegal3B => .one .illegal3B
  | .illegal3C => .one .illegal3C
  | .andAbsoluteX _ => .three .andAbsoluteX
  | .rolAbsoluteX => .one .rolAbsoluteX
  | .illegal3F => .one .illegal3F
  | .rti => .one .rti
  | .eorIndirectX => .one .eorIndirectX
  | .illegal42 => .one .illegal42
  | .illegal43 => .one .illegal43
  | .illegal44 => .one .illegal44
  | .eorZeroPage => .one .eorZeroPage
  | .lsrZeroPage => .one .lsrZeroPage
  | .illegal47 => .one .illegal47
  | .pha => .one .pha
  | .eorImmediate => .one .eorImmediate
  | .lsrAccumulator => .one .lsrAccumulator
  | .illegal4B => .one .illegal4B
  | .jmpAbsolute => .one .jmpAbsolute
  | .eorAbsolute => .one .eorAbsolute
  | .lsrAbsolute => .one .lsrAbsolute
  | .illegal4F => .one .illegal4F
  | .bvc _ => .relative .bvc
  | .eorIndirectY => .one .eorIndirectY
  | .illegal52 => .one .illegal52
  | .illegal53 => .one .illegal53
  | .illegal54 => .one .illegal54
  | .eorZeroPageX => .one .eorZeroPageX
  | .lsrZeroPageX => .one .lsrZeroPageX
  | .illegal57 => .one .illegal57
  | .cli => .one .cli
  | .eorAbsoluteY => .one .eorAbsoluteY
  | .illegal5A => .one .illegal5A
  | .illegal5B => .one .illegal5B
  | .illegal5C => .one .illegal5C
  | .eorAbsoluteX => .one .eorAbsoluteX
  | .lsrAbsoluteX => .one .lsrAbsoluteX
  | .illegal5F => .one .illegal5F
  | .rts => .one .rts
  | .adcIndirectX _ => .two .adcIndirectX
  | .illegal62 => .one .illegal62
  | .illegal63 => .one .illegal63
  | .illegal64 => .one .illegal64
  | .adcZeroPage _ => .two .adcZeroPage
  | .rorZeroPage => .one .rorZeroPage
  | .illegal67 => .one .illegal67
  | .pla => .one .pla
  | .adcImmediate _ => .two .adcImmediate
  | .rorAccumulator => .one .rorAccumulator
  | .illegal6B => .one .illegal6B
  | .jmpIndirect => .one .jmpIndirect
  | .adcAbsolute _ => .three .adcAbsolute
  | .rorAbsolute => .one .rorAbsolute
  | .illegal6F => .one .illegal6F
  | .bvs _ => .relative .bvs
  | .adcIndirectY _ => .two .adcIndirectY
  | .illegal72 => .one .illegal72
  | .illegal73 => .one .illegal73
  | .illegal74 => .one .illegal74
  | .adcZeroPageX _ => .two .adcZeroPageX
  | .rorZeroPageX => .one .rorZeroPageX
  | .illegal77 => .one .illegal77
  | .sei => .one .sei
  | .adcAbsoluteY _ => .three .adcAbsoluteY
  | .illegal7A => .one .illegal7A
  | .illegal7B => .one .illegal7B
  | .illegal7C => .one .illegal7C
  | .adcAbsoluteX _ => .three .adcAbsoluteX
  | .rorAbsoluteX => .one .rorAbsoluteX
  | .illegal7F => .one .illegal7F
  | .illegal80 => .one .illegal80
  | .staIndirectX _ => .two .staIndirectX
  | .illegal82 => .one .illegal82
  | .illegal83 => .one .illegal83
  | .styZeroPage _ => .two .styZeroPage
  | .staZeroPage _ => .two .staZeroPage
  | .stxZeroPage _ => .two .stxZeroPage
  | .illegal87 => .one .illegal87
  | .dey => .one .dey
  | .illegal89 => .one .illegal89
  | .txa => .one .txa
  | .illegal8B => .one .illegal8B
  | .styAbsolute _ => .three .styAbsolute
  | .staAbsolute _ => .three .staAbsolute
  | .stxAbsolute _ => .three .stxAbsolute
  | .illegal8F => .one .illegal8F
  | .bcc _ => .relative .bcc
  | .staIndirectY _ => .two .staIndirectY
  | .illegal92 => .one .illegal92
  | .illegal93 => .one .illegal93
  | .styZeroPageX _ => .two .styZeroPageX
  | .staZeroPageX _ => .two .staZeroPageX
  | .stxZeroPageY _ => .two .stxZeroPageY
  | .illegal97 => .one .illegal97
  | .tya => .one .tya
  | .staAbsoluteY _ => .three .staAbsoluteY
  | .txs => .one .txs
  | .illegal9B => .one .illegal9B
  | .illegal9C => .one .illegal9C
  | .staAbsoluteX _ => .three .staAbsoluteX
  | .illegal9E => .one .illegal9E
  | .illegal9F => .one .illegal9F
  | .ldyImmediate => .one .ldyImmediate
  | .ldaIndirectX _ => .two .ldaIndirectX
  | .ldxImmediate => .one .ldxImmediate
  | .illegalA3 => .one .illegalA3
  | .ldyZeroPage => .one .ldyZeroPage
  | .ldaZeroPage _ => .two .ldaZeroPage
  | .ldxZeroPage => .one .ldxZeroPage
  | .illegalA7 => .one .illegalA7
  | .tay => .one .tay
  | .ldaImmediate _ => .two .ldaImmediate
  | .tax => .one .tax
  | .illegalAB => .one .illegalAB
  | .ldyAbsolute => .one .ldyAbsolute
  | .ldaAbsolute _ => .three .ldaAbsolute
  | .ldxAbsolute => .one .ldxAbsolute
  | .illegalAF => .one .illegalAF
  | .bcs _ => .relative .bcs
  | .ldaIndirectY _ => .two .ldaIndirectY
  | .illegalB2 => .one .illegalB2
  | .illegalB3 => .one .illegalB3
  | .ldyZeroPageX => .one .ldyZeroPageX
  | .ldaZeroPageX _ => .two .ldaZeroPageX
  | .ldxZeroPageY => .one .ldxZeroPageY
  | .illegalB7 => .one .illegalB7
  | .clv => .one .clv
  | .ldaAbsoluteY _ => .three .ldaAbsoluteY
  | .tsx => .one .tsx
  | .illegalBB => .one .illegalBB
  | .ldyAbsoluteX => .one .ldyAbsoluteX
  | .ldaAbsoluteX _ => .three .ldaAbsoluteX
  | .ldxAbsoluteY => .one .ldxAbsoluteY
  | .illegalBF => .one .illegalBF
  | .cpyImmediate => .one .cpyImmediate
  | .cmpIndirectX => .one .cmpIndirectX
  | .illegalC2 => .one .illegalC2
  | .illegalC3 => .one .illegalC3
  | .cpyZeroPage => .one .cpyZeroPage
  | .cmpZeroPage => .one .cmpZeroPage
  | .decZeroPage => .one .decZeroPage
  | .illegalC7 => .one .illegalC7
  | .iny => .one .iny
  | .cmpImmediate => .one .cmpImmediate
  | .dex => .one .dex
  | .illegalCB => .one .illegalCB
  | .cpyAbsolute => .one .cpyAbsolute
  | .cmpAbsolute => .one .cmpAbsolute
  | .decAbsolute => .one .decAbsolute
  | .illegalCF => .one .illegalCF
  | .bne _ => .relative .bne
  | .cmpIndirectY => .one .cmpIndirectY
  | .illegalD2 => .one .illegalD2
  | .illegalD3 => .one .illegalD3
  | .illegalD4 => .one .illegalD4
  | .cmpZeroPageX => .one .cmpZeroPageX
  | .decZeroPageX => .one .decZeroPageX
  | .illegalD7 => .one .illegalD7
  | .cld => .one .cld
  | .cmpAbsoluteY => .one .cmpAbsoluteY
  | .illegalDA => .one .illegalDA
  | .illegalDB => .one .illegalDB
  | .illegalDC => .one .illegalDC
  | .cmpAbsoluteX => .one .cmpAbsoluteX
  | .decAbsoluteX => .one .decAbsoluteX
  | .illegalDF => .one .illegalDF
  | .cpxImmediate => .one .cpxImmediate
  | .sbcIndirectX => .one .sbcIndirectX
  | .illegalE2 => .one .illegalE2
  | .illegalE3 => .one .illegalE3
  | .cpxZeroPage => .one .cpxZeroPage
  | .sbcZeroPage => .one .sbcZeroPage
  | .incZeroPage => .one .incZeroPage
  | .illegalE7 => .one .illegalE7
  | .inx => .one .inx
  | .sbcImmediate => .one .sbcImmediate
  | .nop => .one .nop
  | .illegalEB => .one .illegalEB
  | .cpxAbsolute => .one .cpxAbsolute
  | .sbcAbsolute => .one .sbcAbsolute
  | .incAbsolute => .one .incAbsolute
  | .illegalEF => .one .illegalEF
  | .beq _ => .relative .beq
  | .sbcIndirectY => .one .sbcIndirectY
  | .illegalF2 => .one .illegalF2
  | .illegalF3 => .one .illegalF3
  | .illegalF4 => .one .illegalF4
  | .sbcZeroPageX => .one .sbcZeroPageX
  | .incZeroPageX => .one .incZeroPageX
  | .illegalF7 => .one .illegalF7
  | .sed => .one .sed
  | .sbcAbsoluteY => .one .sbcAbsoluteY
  | .illegalFA => .one .illegalFA
  | .illegalFB => .one .illegalFB
  | .illegalFC => .one .illegalFC
  | .sbcAbsoluteX => .one .sbcAbsoluteX
  | .incAbsoluteX => .one .incAbsoluteX
  | .illegalFF => .one .illegalFF

/-- The map's cell at an instruction's opcode byte is that instruction's row. -/
theorem opcodeRow_opcodeOf (i : Instr) : opcodeRow (opcodeOf i) = rowOf i := by
  cases i <;> (dsimp only [opcodeOf, rowOf]; rfl)

/-- Every opcode byte is some instruction's, so every cell of the map is some instruction's row. -/
theorem opcodeRow_inv (op : Byte) : ∃ i, opcodeOf i = op ∧ opcodeRow op = rowOf i := by
  have h : ∀ op : Byte, opcodeOf (decodeAt op 0 0) = op := by decide
  exact ⟨decodeAt op 0 0, h op, by rw [← opcodeRow_opcodeOf, h op]⟩

/-- A decoded instruction is a row with its operand filled in. -/
theorem decodeAt_eq_build (i : Instr) (b1 b2 : Byte) : decodeAt (opcodeOf i) b1 b2 = (rowOf i).build b1 b2 := by
  rw [decodeAt, opcodeRow_opcodeOf]

end Sys2Proof
end

