-- ==== Sys2Proof/Laws/State.lean ====
section
/-! SUPPORT. One lemma per field per update of State and of Flags, and what each shared state operation writes, so that no later
proof unfolds a record update. -/

namespace Sys2Proof.Machine

@[simp] theorem State.setA_pc (s : State) (v : Byte) : (s.setA v).pc = s.pc := rfl
@[simp] theorem State.setA_sp (s : State) (v : Byte) : (s.setA v).sp = s.sp := rfl
@[simp] theorem State.setA_a (s : State) (v : Byte) : (s.setA v).a = v := rfl
@[simp] theorem State.setA_x (s : State) (v : Byte) : (s.setA v).x = s.x := rfl
@[simp] theorem State.setA_y (s : State) (v : Byte) : (s.setA v).y = s.y := rfl
@[simp] theorem State.setA_p (s : State) (v : Byte) : (s.setA v).p = s.p := rfl
@[simp] theorem State.setA_runState (s : State) (v : Byte) : (s.setA v).runState = s.runState := rfl
@[simp] theorem State.setA_mem (s : State) (v : Byte) : (s.setA v).mem = s.mem := rfl

@[simp] theorem State.setX_pc (s : State) (v : Byte) : (s.setX v).pc = s.pc := rfl
@[simp] theorem State.setX_sp (s : State) (v : Byte) : (s.setX v).sp = s.sp := rfl
@[simp] theorem State.setX_a (s : State) (v : Byte) : (s.setX v).a = s.a := rfl
@[simp] theorem State.setX_x (s : State) (v : Byte) : (s.setX v).x = v := rfl
@[simp] theorem State.setX_y (s : State) (v : Byte) : (s.setX v).y = s.y := rfl
@[simp] theorem State.setX_p (s : State) (v : Byte) : (s.setX v).p = s.p := rfl
@[simp] theorem State.setX_runState (s : State) (v : Byte) : (s.setX v).runState = s.runState := rfl
@[simp] theorem State.setX_mem (s : State) (v : Byte) : (s.setX v).mem = s.mem := rfl

@[simp] theorem State.setY_pc (s : State) (v : Byte) : (s.setY v).pc = s.pc := rfl
@[simp] theorem State.setY_sp (s : State) (v : Byte) : (s.setY v).sp = s.sp := rfl
@[simp] theorem State.setY_a (s : State) (v : Byte) : (s.setY v).a = s.a := rfl
@[simp] theorem State.setY_x (s : State) (v : Byte) : (s.setY v).x = s.x := rfl
@[simp] theorem State.setY_y (s : State) (v : Byte) : (s.setY v).y = v := rfl
@[simp] theorem State.setY_p (s : State) (v : Byte) : (s.setY v).p = s.p := rfl
@[simp] theorem State.setY_runState (s : State) (v : Byte) : (s.setY v).runState = s.runState := rfl
@[simp] theorem State.setY_mem (s : State) (v : Byte) : (s.setY v).mem = s.mem := rfl

@[simp] theorem State.setP_pc (s : State) (v : Flags) : (s.setP v).pc = s.pc := rfl
@[simp] theorem State.setP_sp (s : State) (v : Flags) : (s.setP v).sp = s.sp := rfl
@[simp] theorem State.setP_a (s : State) (v : Flags) : (s.setP v).a = s.a := rfl
@[simp] theorem State.setP_x (s : State) (v : Flags) : (s.setP v).x = s.x := rfl
@[simp] theorem State.setP_y (s : State) (v : Flags) : (s.setP v).y = s.y := rfl
@[simp] theorem State.setP_p (s : State) (v : Flags) : (s.setP v).p = v := rfl
@[simp] theorem State.setP_runState (s : State) (v : Flags) : (s.setP v).runState = s.runState := rfl
@[simp] theorem State.setP_mem (s : State) (v : Flags) : (s.setP v).mem = s.mem := rfl

@[simp] theorem State.setPc_pc (s : State) (v : Address) : (s.setPc v).pc = v := rfl
@[simp] theorem State.setPc_sp (s : State) (v : Address) : (s.setPc v).sp = s.sp := rfl
@[simp] theorem State.setPc_a (s : State) (v : Address) : (s.setPc v).a = s.a := rfl
@[simp] theorem State.setPc_x (s : State) (v : Address) : (s.setPc v).x = s.x := rfl
@[simp] theorem State.setPc_y (s : State) (v : Address) : (s.setPc v).y = s.y := rfl
@[simp] theorem State.setPc_p (s : State) (v : Address) : (s.setPc v).p = s.p := rfl
@[simp] theorem State.setPc_runState (s : State) (v : Address) : (s.setPc v).runState = s.runState := rfl
@[simp] theorem State.setPc_mem (s : State) (v : Address) : (s.setPc v).mem = s.mem := rfl

@[simp] theorem State.setRunState_pc (s : State) (v : RunState) : (s.setRunState v).pc = s.pc := rfl
@[simp] theorem State.setRunState_sp (s : State) (v : RunState) : (s.setRunState v).sp = s.sp := rfl
@[simp] theorem State.setRunState_a (s : State) (v : RunState) : (s.setRunState v).a = s.a := rfl
@[simp] theorem State.setRunState_x (s : State) (v : RunState) : (s.setRunState v).x = s.x := rfl
@[simp] theorem State.setRunState_y (s : State) (v : RunState) : (s.setRunState v).y = s.y := rfl
@[simp] theorem State.setRunState_p (s : State) (v : RunState) : (s.setRunState v).p = s.p := rfl
@[simp] theorem State.setRunState_runState (s : State) (v : RunState) : (s.setRunState v).runState = v := rfl
@[simp] theorem State.setRunState_mem (s : State) (v : RunState) : (s.setRunState v).mem = s.mem := rfl

@[simp] theorem State.setMem_pc (s : State) (v : Memory) : (s.setMem v).pc = s.pc := rfl
@[simp] theorem State.setMem_sp (s : State) (v : Memory) : (s.setMem v).sp = s.sp := rfl
@[simp] theorem State.setMem_a (s : State) (v : Memory) : (s.setMem v).a = s.a := rfl
@[simp] theorem State.setMem_x (s : State) (v : Memory) : (s.setMem v).x = s.x := rfl
@[simp] theorem State.setMem_y (s : State) (v : Memory) : (s.setMem v).y = s.y := rfl
@[simp] theorem State.setMem_p (s : State) (v : Memory) : (s.setMem v).p = s.p := rfl
@[simp] theorem State.setMem_runState (s : State) (v : Memory) : (s.setMem v).runState = s.runState := rfl
@[simp] theorem State.setMem_mem (s : State) (v : Memory) : (s.setMem v).mem = v := rfl

@[simp] theorem State.pc1_eq (s : State) : s.pc1 = s.pc + 1 := rfl

@[simp] theorem State.store_pc (s : State) (a : Address) (v : Byte) : (s.store a v).pc = s.pc := rfl
@[simp] theorem State.store_sp (s : State) (a : Address) (v : Byte) : (s.store a v).sp = s.sp := rfl
@[simp] theorem State.store_a (s : State) (a : Address) (v : Byte) : (s.store a v).a = s.a := rfl
@[simp] theorem State.store_x (s : State) (a : Address) (v : Byte) : (s.store a v).x = s.x := rfl
@[simp] theorem State.store_y (s : State) (a : Address) (v : Byte) : (s.store a v).y = s.y := rfl
@[simp] theorem State.store_p (s : State) (a : Address) (v : Byte) : (s.store a v).p = s.p := rfl
@[simp] theorem State.store_runState (s : State) (a : Address) (v : Byte) : (s.store a v).runState = s.runState := rfl
@[simp] theorem State.store_mem (s : State) (a : Address) (v : Byte) : (s.store a v).mem = s.mem.write a v := rfl

@[simp] theorem State.advance_pc (s : State) (len : Nat) : (s.advance len).pc = s.pc + 1 + BitVec.ofNat 16 len := rfl
@[simp] theorem State.advance_sp (s : State) (len : Nat) : (s.advance len).sp = s.sp := rfl
@[simp] theorem State.advance_a (s : State) (len : Nat) : (s.advance len).a = s.a := rfl
@[simp] theorem State.advance_x (s : State) (len : Nat) : (s.advance len).x = s.x := rfl
@[simp] theorem State.advance_y (s : State) (len : Nat) : (s.advance len).y = s.y := rfl
@[simp] theorem State.advance_p (s : State) (len : Nat) : (s.advance len).p = s.p := rfl
@[simp] theorem State.advance_runState (s : State) (len : Nat) : (s.advance len).runState = s.runState := rfl
@[simp] theorem State.advance_mem (s : State) (len : Nat) : (s.advance len).mem = s.mem := rfl

@[simp] theorem State.branchTo_pc (s : State) (d : Int) : (s.branchTo d).pc = s.pc + 1 + sext16 d + 1 := rfl
@[simp] theorem State.branchTo_sp (s : State) (d : Int) : (s.branchTo d).sp = s.sp := rfl
@[simp] theorem State.branchTo_a (s : State) (d : Int) : (s.branchTo d).a = s.a := rfl
@[simp] theorem State.branchTo_x (s : State) (d : Int) : (s.branchTo d).x = s.x := rfl
@[simp] theorem State.branchTo_y (s : State) (d : Int) : (s.branchTo d).y = s.y := rfl
@[simp] theorem State.branchTo_p (s : State) (d : Int) : (s.branchTo d).p = s.p := rfl
@[simp] theorem State.branchTo_runState (s : State) (d : Int) : (s.branchTo d).runState = s.runState := rfl
@[simp] theorem State.branchTo_mem (s : State) (d : Int) : (s.branchTo d).mem = s.mem := rfl

@[simp] theorem State.halt_pc (s : State) : (s.halt).pc = s.pc + 1 := rfl
@[simp] theorem State.halt_sp (s : State) : (s.halt).sp = s.sp := rfl
@[simp] theorem State.halt_a (s : State) : (s.halt).a = s.a := rfl
@[simp] theorem State.halt_x (s : State) : (s.halt).x = s.x := rfl
@[simp] theorem State.halt_y (s : State) : (s.halt).y = s.y := rfl
@[simp] theorem State.halt_p (s : State) : (s.halt).p = s.p := rfl
@[simp] theorem State.halt_runState (s : State) : (s.halt).runState = .halted := rfl
@[simp] theorem State.halt_mem (s : State) : (s.halt).mem = s.mem := rfl

@[simp] theorem State.raiseFault_pc (s : State) (r : FaultReason) : (s.raiseFault r).pc = s.pc + 1 := rfl
@[simp] theorem State.raiseFault_sp (s : State) (r : FaultReason) : (s.raiseFault r).sp = s.sp := rfl
@[simp] theorem State.raiseFault_a (s : State) (r : FaultReason) : (s.raiseFault r).a = s.a := rfl
@[simp] theorem State.raiseFault_x (s : State) (r : FaultReason) : (s.raiseFault r).x = s.x := rfl
@[simp] theorem State.raiseFault_y (s : State) (r : FaultReason) : (s.raiseFault r).y = s.y := rfl
@[simp] theorem State.raiseFault_p (s : State) (r : FaultReason) : (s.raiseFault r).p = s.p := rfl
@[simp] theorem State.raiseFault_runState (s : State) (r : FaultReason) : (s.raiseFault r).runState = .faulted r := rfl
@[simp] theorem State.raiseFault_mem (s : State) (r : FaultReason) : (s.raiseFault r).mem = s.mem := rfl

@[simp] theorem State.hostReset_pc (s : State) : (s.hostReset).pc = s.mem.read16 Config.resetVector := rfl
@[simp] theorem State.hostReset_sp (s : State) : (s.hostReset).sp = 0 := rfl
@[simp] theorem State.hostReset_a (s : State) : (s.hostReset).a = 0 := rfl
@[simp] theorem State.hostReset_x (s : State) : (s.hostReset).x = 0 := rfl
@[simp] theorem State.hostReset_y (s : State) : (s.hostReset).y = 0 := rfl
@[simp] theorem State.hostReset_p (s : State) : (s.hostReset).p = Flags.clear := rfl
@[simp] theorem State.hostReset_runState (s : State) : (s.hostReset).runState = .running := rfl
@[simp] theorem State.hostReset_mem (s : State) : (s.hostReset).mem = s.mem := rfl

@[simp] theorem advancePast_pc (mode : Mode) (s : State) : (advancePast mode s).pc = s.pc + 1 + BitVec.ofNat 16 mode.operandLength := rfl
@[simp] theorem advancePast_sp (mode : Mode) (s : State) : (advancePast mode s).sp = s.sp := rfl
@[simp] theorem advancePast_a (mode : Mode) (s : State) : (advancePast mode s).a = s.a := rfl
@[simp] theorem advancePast_x (mode : Mode) (s : State) : (advancePast mode s).x = s.x := rfl
@[simp] theorem advancePast_y (mode : Mode) (s : State) : (advancePast mode s).y = s.y := rfl
@[simp] theorem advancePast_p (mode : Mode) (s : State) : (advancePast mode s).p = s.p := rfl
@[simp] theorem advancePast_runState (mode : Mode) (s : State) : (advancePast mode s).runState = s.runState := rfl
@[simp] theorem advancePast_mem (mode : Mode) (s : State) : (advancePast mode s).mem = s.mem := rfl

@[simp] theorem Flags.setZN_c (p : Flags) (r : Byte) : (p.setZN r).c = p.c := rfl
@[simp] theorem Flags.setZN_z (p : Flags) (r : Byte) : (p.setZN r).z = isZero r := rfl
@[simp] theorem Flags.setZN_i (p : Flags) (r : Byte) : (p.setZN r).i = p.i := rfl
@[simp] theorem Flags.setZN_d (p : Flags) (r : Byte) : (p.setZN r).d = p.d := rfl
@[simp] theorem Flags.setZN_b (p : Flags) (r : Byte) : (p.setZN r).b = p.b := rfl
@[simp] theorem Flags.setZN_u (p : Flags) (r : Byte) : (p.setZN r).u = p.u := rfl
@[simp] theorem Flags.setZN_v (p : Flags) (r : Byte) : (p.setZN r).v = p.v := rfl
@[simp] theorem Flags.setZN_n (p : Flags) (r : Byte) : (p.setZN r).n = isNegative r := rfl

@[simp] theorem Flags.setC_c (p : Flags) (r : Bool) : (p.setC r).c = r := rfl
@[simp] theorem Flags.setC_z (p : Flags) (r : Bool) : (p.setC r).z = p.z := rfl
@[simp] theorem Flags.setC_i (p : Flags) (r : Bool) : (p.setC r).i = p.i := rfl
@[simp] theorem Flags.setC_d (p : Flags) (r : Bool) : (p.setC r).d = p.d := rfl
@[simp] theorem Flags.setC_b (p : Flags) (r : Bool) : (p.setC r).b = p.b := rfl
@[simp] theorem Flags.setC_u (p : Flags) (r : Bool) : (p.setC r).u = p.u := rfl
@[simp] theorem Flags.setC_v (p : Flags) (r : Bool) : (p.setC r).v = p.v := rfl
@[simp] theorem Flags.setC_n (p : Flags) (r : Bool) : (p.setC r).n = p.n := rfl

@[simp] theorem Flags.setV_c (p : Flags) (r : Bool) : (p.setV r).c = p.c := rfl
@[simp] theorem Flags.setV_z (p : Flags) (r : Bool) : (p.setV r).z = p.z := rfl
@[simp] theorem Flags.setV_i (p : Flags) (r : Bool) : (p.setV r).i = p.i := rfl
@[simp] theorem Flags.setV_d (p : Flags) (r : Bool) : (p.setV r).d = p.d := rfl
@[simp] theorem Flags.setV_b (p : Flags) (r : Bool) : (p.setV r).b = p.b := rfl
@[simp] theorem Flags.setV_u (p : Flags) (r : Bool) : (p.setV r).u = p.u := rfl
@[simp] theorem Flags.setV_v (p : Flags) (r : Bool) : (p.setV r).v = r := rfl
@[simp] theorem Flags.setV_n (p : Flags) (r : Bool) : (p.setV r).n = p.n := rfl

@[simp] theorem Flags.afterShift_c (p : Flags) (r : Byte) : (p.afterShift r).c = shl8Carry r := rfl
@[simp] theorem Flags.afterShift_z (p : Flags) (r : Byte) : (p.afterShift r).z = isZero (shl8 r) := rfl
@[simp] theorem Flags.afterShift_i (p : Flags) (r : Byte) : (p.afterShift r).i = p.i := rfl
@[simp] theorem Flags.afterShift_d (p : Flags) (r : Byte) : (p.afterShift r).d = p.d := rfl
@[simp] theorem Flags.afterShift_b (p : Flags) (r : Byte) : (p.afterShift r).b = p.b := rfl
@[simp] theorem Flags.afterShift_u (p : Flags) (r : Byte) : (p.afterShift r).u = p.u := rfl
@[simp] theorem Flags.afterShift_v (p : Flags) (r : Byte) : (p.afterShift r).v = p.v := rfl
@[simp] theorem Flags.afterShift_n (p : Flags) (r : Byte) : (p.afterShift r).n = isNegative (shl8 r) := rfl

@[simp] theorem Flags.afterAdd_c (p : Flags) (a m : Byte) : (p.afterAdd a m).c = adc8Carry a m p.c := rfl
@[simp] theorem Flags.afterAdd_z (p : Flags) (a m : Byte) : (p.afterAdd a m).z = isZero (adc8 a m p.c) := rfl
@[simp] theorem Flags.afterAdd_i (p : Flags) (a m : Byte) : (p.afterAdd a m).i = p.i := rfl
@[simp] theorem Flags.afterAdd_d (p : Flags) (a m : Byte) : (p.afterAdd a m).d = p.d := rfl
@[simp] theorem Flags.afterAdd_b (p : Flags) (a m : Byte) : (p.afterAdd a m).b = p.b := rfl
@[simp] theorem Flags.afterAdd_u (p : Flags) (a m : Byte) : (p.afterAdd a m).u = p.u := rfl
@[simp] theorem Flags.afterAdd_v (p : Flags) (a m : Byte) : (p.afterAdd a m).v = adc8Overflow a m p.c := rfl
@[simp] theorem Flags.afterAdd_n (p : Flags) (a m : Byte) : (p.afterAdd a m).n = isNegative (adc8 a m p.c) := rfl

end Sys2Proof.Machine
end

