-- ==== Sys2Proof/Laws/Exec.lean ====
section
/-! SUPPORT. Once for each shared meaning, the state it answers; and `exec` as a function of the tagged operation
(40_execution_cycle.md R118), which the proofs cite instead of opening the 256 arms. -/

namespace Sys2Proof.Machine

/-- The meaning of an operation: what the arm of every row that stands for it answers. -/
def perform (o : Operation) (s : State) : Host.Outcome State Fault Refusal :=
  match o with
  | .lda src => loadA src s
  | .and src => andA src s
  | .adc src => addA src s
  | .sta dst => storeByte dst s.a s
  | .stx dst => storeByte dst s.x s
  | .sty dst => storeByte dst s.y s
  | .aslA => shiftA s
  | .asl dst => shiftMemory dst s
  | .tax => execTax s
  | .tay => execTay s
  | .inx => execInx s
  | .iny => execIny s
  | .branch c d => branch c d s
  | .brk => execBrk s
  | .unimplemented _ => raiseUnimplemented s
  | .illegal => raiseInvalid s

/-- Every arm is the meaning of its row's operation. -/
theorem exec_eq_perform (i : Instr) (s : State) : exec i s = perform i.operation s := by cases i <;> rfl

/-- The state an operation answers. -/
def performed (o : Operation) (s : State) : State :=
  match o with
  | .lda src => advancePast src.mode ((s.setA (sourceValue src s)).setP (s.p.setZN (sourceValue src s)))
  | .and src => advancePast src.mode ((s.setA (and8 s.a (sourceValue src s))).setP (s.p.setZN (and8 s.a (sourceValue src s))))
  | .adc src =>
    advancePast src.mode ((s.setA (adc8 s.a (sourceValue src s) s.p.c)).setP (s.p.afterAdd s.a (sourceValue src s)))
  | .sta dst => advancePast dst.mode (s.store (ea dst s) s.a)
  | .stx dst => advancePast dst.mode (s.store (ea dst s) s.x)
  | .sty dst => advancePast dst.mode (s.store (ea dst s) s.y)
  | .aslA => advancePast .accumulator ((s.setA (shl8 s.a)).setP (s.p.afterShift s.a))
  | .asl dst => advancePast dst.mode ((s.store (ea dst s) (shl8 (loadByte dst s))).setP (s.p.afterShift (loadByte dst s)))
  | .tax => advancePast .implied ((s.setX s.a).setP (s.p.setZN s.a))
  | .tay => advancePast .implied ((s.setY s.a).setP (s.p.setZN s.a))
  | .inx => advancePast .implied ((s.setX (inc8 s.x)).setP (s.p.setZN (inc8 s.x)))
  | .iny => advancePast .implied ((s.setY (inc8 s.y)).setP (s.p.setZN (inc8 s.y)))
  | .branch c d => if conditionHolds s.p c then s.branchTo d else advancePast .relative s
  | .brk => s.halt
  | .unimplemented _ => s.raiseFault .unimplemented
  | .illegal => s.raiseFault .invalidInstruction

/-- Every operation answers a next state, and which one. -/
theorem perform_eq (o : Operation) (s : State) : perform o s = .next (performed o s) := by cases o <;> rfl

/-- What `exec` answers. -/
theorem exec_eq (i : Instr) (s : State) : exec i s = .next (performed i.operation s) :=
  (exec_eq_perform i s).trans (perform_eq _ s)

/-- The one state `exec` can answer. -/
theorem exec_next_iff {i : Instr} {s t : State} : exec i s = .next t ↔ t = performed i.operation s := by
  rw [exec_eq]; constructor <;> intro h <;> simp_all

/-- A step of a running core. -/
theorem step_running {s : State} (h : s.runState = .running) : step s = exec (fetch s) s := by simp [step, h]

/-- A step of a core that is not running. -/
theorem step_terminal {s : State} (h : s.runState ≠ .running) : step s = .next s := by
  cases hr : s.runState <;> simp_all [step]

/-- A branch writes the PC and nothing else, taken or not. -/
theorem branch_result (c : Condition) (d : Int) (s : State) : ∃ v, performed (.branch c d) s = s.setPc v := by
  by_cases h : conditionHolds s.p c = true
  · exact ⟨s.pc + 1 + sext16 d + 1, by simp [performed, h]; rfl⟩
  · exact ⟨s.pc + 1 + BitVec.ofNat 16 1, by simp [performed, h]; rfl⟩

end Sys2Proof.Machine
end

