-- ==== Sys2Proof/Laws/Memory.lean ====
section
/-! SUPPORT. The laws of memory: what one cell reads as after a cell is set, and that every memory operation keeps the canonical
form. -/

namespace Sys2Proof.Machine

/-- Setting a cell leaves every other cell as it was, in any list. -/
theorem Memory.cellAt_setCell_other (m : Memory) (a b : Nat) (v : Byte) (h : b ≠ a) :
    (m.setCell a v).cellAt b = m.cellAt b := by
  induction m with
  | nil => by_cases hv : v = memoryDefault <;> simp [setCell, cellAt, hv, Ne.symm h]
  | cons c m ih =>
    obtain ⟨k, w⟩ := c
    by_cases h1 : a < k
    · by_cases hv : v = memoryDefault <;> simp [setCell, cellAt, h1, hv, Ne.symm h]
    · by_cases h2 : a = k
      · subst h2
        by_cases hv : v = memoryDefault <;> simp [setCell, cellAt, hv, Ne.symm h]
      · simp [setCell, cellAt, h1, h2, ih]

/-- A key below every listed key reads as an unlisted address does. -/
theorem Memory.cellAt_of_lt (m : Memory) (a : Nat) (h : ∀ c ∈ m, a < c.1) : m.cellAt a = memoryDefault := by
  induction m with
  | nil => rfl
  | cons c m ih =>
    have h1 := h c (by simp)
    have h2 : c.1 ≠ a := by omega
    simp [cellAt, h2, ih fun d hd => h d (by simp [hd])]

/-- Setting a cell of a sorted list gives the cell that value. -/
theorem Memory.cellAt_setCell_same (m : Memory) (a : Nat) (v : Byte) (h : m.Pairwise (fun c d => c.1 < d.1)) :
    (m.setCell a v).cellAt a = v := by
  induction m with
  | nil => by_cases hv : v = memoryDefault <;> simp [setCell, cellAt, hv]
  | cons c m ih =>
    obtain ⟨k, w⟩ := c
    obtain ⟨hk, hm⟩ := List.pairwise_cons.mp h
    by_cases h1 : a < k
    · by_cases hv : v = memoryDefault
      · have below : ∀ c ∈ m, a < c.1 := fun d hd => Nat.lt_trans h1 (hk d hd)
        simp [setCell, cellAt, h1, hv, Nat.ne_of_gt h1, cellAt_of_lt m a below]
      · simp [setCell, cellAt, h1, hv]
    · by_cases h2 : a = k
      · subst h2
        by_cases hv : v = memoryDefault
        · simp [setCell, hv, cellAt_of_lt m a hk]
        · simp [setCell, cellAt, hv]
      · simp [setCell, cellAt, h1, h2, Ne.symm h2, ih hm]

/-- Every cell of the list after setting one is the cell set or an old cell. -/
theorem Memory.mem_setCell (m : Memory) (a : Nat) (v : Byte) (c : Host.Cell) (h : c ∈ m.setCell a v) :
    (c = (a, v) ∧ v ≠ memoryDefault) ∨ c ∈ m := by
  induction m with
  | nil => by_cases hv : v = memoryDefault <;> simp_all [setCell]
  | cons d m ih =>
    obtain ⟨k, w⟩ := d
    by_cases h1 : a < k
    · by_cases hv : v = memoryDefault <;> simp_all [setCell]
    · by_cases h2 : a = k
      · by_cases hv : v = memoryDefault
        · right; simp_all [setCell]
        · simp_all [setCell]; tauto
      · simp only [setCell, h1, h2, if_false, List.mem_cons] at h ⊢
        rcases h with h | h
        · exact .inr (.inl h)
        · exact (ih h).imp id .inr

/-- Setting a cell keeps the addresses rising. -/
theorem Memory.pairwise_setCell (m : Memory) (a : Nat) (v : Byte) (h : m.Pairwise (fun c d => c.1 < d.1)) :
    (m.setCell a v).Pairwise (fun c d => c.1 < d.1) := by
  induction m with
  | nil => by_cases hv : v = memoryDefault <;> simp [setCell, hv]
  | cons c m ih =>
    obtain ⟨k, w⟩ := c
    obtain ⟨hk, hm⟩ := List.pairwise_cons.mp h
    by_cases h1 : a < k
    · by_cases hv : v = memoryDefault
      · simpa [setCell, h1, hv] using h
      · simp only [setCell, h1, hv, if_true, if_false]
        refine List.pairwise_cons.mpr ⟨fun d hd => ?_, h⟩
        rcases List.mem_cons.mp hd with rfl | hd
        · exact h1
        · exact Nat.lt_trans h1 (hk d hd)
    · by_cases h2 : a = k
      · subst h2
        by_cases hv : v = memoryDefault
        · simpa [setCell, hv] using hm
        · simp only [setCell, hv, Nat.lt_irrefl, if_true, if_false]
          exact List.pairwise_cons.mpr ⟨hk, hm⟩
      · simp only [setCell, h1, h2, if_false]
        refine List.pairwise_cons.mpr ⟨fun d hd => ?_, ih hm⟩
        rcases mem_setCell m a v d hd with ⟨rfl, -⟩ | hd
        · simp only; omega
        · exact hk d hd

/-- The empty list is in canonical form. -/
theorem Memory.wf_nil : Memory.wf [] := by simp [Memory.wf]

/-- A byte write keeps the canonical form (R52). -/
theorem Memory.wf_write {m : Memory} (h : m.wf) (a : Address) (v : Byte) : (m.write a v).wf := by
  refine ⟨pairwise_setCell m a.toNat v h.1, fun c hc => ?_⟩
  rcases mem_setCell m a.toNat v c hc with ⟨rfl, hv⟩ | hc
  · exact ⟨a.isLt, hv⟩
  · exact h.2 c hc

/-- A word write keeps the canonical form (R54). -/
theorem Memory.wf_write16 {m : Memory} (h : m.wf) (a w : Address) : (m.write16 a w).wf :=
  wf_write (wf_write h _ _) _ _

/-- A list of byte writes keeps the canonical form (R58). -/
theorem Memory.wf_writeBytes {m : Memory} (h : m.wf) (a : Address) (bs : List Byte) : (m.writeBytes a bs).wf := by
  induction bs generalizing m a with
  | nil => exact h
  | cons b bs ih => exact ih (wf_write h a b) (a + 1)

/-- A read of an empty memory: "zero-initialized" (R57). -/
@[simp] theorem Memory.read_nil (a : Address) : Memory.read [] a = 0 := rfl

end Sys2Proof.Machine
end

