-- ==== Sys2Proof/Laws/PerInstr.lean ====
section
/-! SUPPORT. Statements made of every instruction, one lemma per constructor. `OpcodeAndLength`: the instruction's encoding is
its opcode byte and as many bytes as its mode has operand bytes (30_encoding.md R81, R82), and the decoder's row for that
opcode byte waits for just as many. -/

namespace Sys2Proof.Laws.OpcodeAndLength

def Statement (i : Instr) : Prop :=
  (encode i).length = 1 + i.operandLength ∧ (opcodeRow (opcodeOf i)).operandLength = i.operandLength

theorem brk : Statement .brk :=
  ⟨rfl, congrArg Row.operandLength (rfl : opcodeRow 0x00 = .one .brk)⟩
theorem oraIndirectX : Statement .oraIndirectX :=
  ⟨rfl, congrArg Row.operandLength (rfl : opcodeRow 0x01 = .one .oraIndirectX)⟩
theorem illegal02 : Statement .illegal02 :=
  ⟨rfl, congrArg Row.operandLength (rfl : opcodeRow 0x02 = .one .illegal02)⟩
theorem illegal03 : Statement .illegal03 :=
  ⟨rfl, congrArg Row.operandLength (rfl : opcodeRow 0x03 = .one .illegal03)⟩
theorem illegal04 : Statement .illegal04 :=
  ⟨rfl, congrArg Row.operandLength (rfl : opcodeRow 0x04 = .one .illegal04)⟩
theorem oraZeroPage : Statement .oraZeroPage :=
  ⟨rfl, congrArg Row.operandLength (rfl : opcodeRow 0x05 = .one .oraZeroPage)⟩
theorem aslZeroPage (addr : Byte) : Statement (.aslZeroPage addr) :=
  ⟨rfl, congrArg Row.operandLength (rfl : opcodeRow 0x06 = .two .aslZeroPage)⟩
theorem illegal07 : Statement .illegal07 :=
  ⟨rfl, congrArg Row.operandLength (rfl : opcodeRow 0x07 = .one .illegal07)⟩
theorem php : Statement .php :=
  ⟨rfl, congrArg Row.operandLength (rfl : opcodeRow 0x08 = .one .php)⟩
theorem oraImmediate : Statement .oraImmediate :=
  ⟨rfl, congrArg Row.operandLength (rfl : opcodeRow 0x09 = .one .oraImmediate)⟩
theorem aslAccumulator : Statement .aslAccumulator :=
  ⟨rfl, congrArg Row.operandLength (rfl : opcodeRow 0x0A = .one .aslAccumulator)⟩
theorem illegal0B : Statement .illegal0B :=
  ⟨rfl, congrArg Row.operandLength (rfl : opcodeRow 0x0B = .one .illegal0B)⟩
theorem illegal0C : Statement .illegal0C :=
  ⟨rfl, congrArg Row.operandLength (rfl : opcodeRow 0x0C = .one .illegal0C)⟩
theorem oraAbsolute : Statement .oraAbsolute :=
  ⟨rfl, congrArg Row.operandLength (rfl : opcodeRow 0x0D = .one .oraAbsolute)⟩
theorem aslAbsolute (addr : Address) : Statement (.aslAbsolute addr) :=
  ⟨rfl, congrArg Row.operandLength (rfl : opcodeRow 0x0E = .three .aslAbsolute)⟩
theorem illegal0F : Statement .illegal0F :=
  ⟨rfl, congrArg Row.operandLength (rfl : opcodeRow 0x0F = .one .illegal0F)⟩
theorem bpl (d : Int) : Statement (.bpl d) :=
  ⟨rfl, congrArg Row.operandLength (rfl : opcodeRow 0x10 = .relative .bpl)⟩
theorem oraIndirectY : Statement .oraIndirectY :=
  ⟨rfl, congrArg Row.operandLength (rfl : opcodeRow 0x11 = .one .oraIndirectY)⟩
theorem illegal12 : Statement .illegal12 :=
  ⟨rfl, congrArg Row.operandLength (rfl : opcodeRow 0x12 = .one .illegal12)⟩
theorem illegal13 : Statement .illegal13 :=
  ⟨rfl, congrArg Row.operandLength (rfl : opcodeRow 0x13 = .one .illegal13)⟩
theorem illegal14 : Statement .illegal14 :=
  ⟨rfl, congrArg Row.operandLength (rfl : opcodeRow 0x14 = .one .illegal14)⟩
theorem oraZeroPageX : Statement .oraZeroPageX :=
  ⟨rfl, congrArg Row.operandLength (rfl : opcodeRow 0x15 = .one .oraZeroPageX)⟩
theorem aslZeroPageX (addr : Byte) : Statement (.aslZeroPageX addr) :=
  ⟨rfl, congrArg Row.operandLength (rfl : opcodeRow 0x16 = .two .aslZeroPageX)⟩
theorem illegal17 : Statement .illegal17 :=
  ⟨rfl, congrArg Row.operandLength (rfl : opcodeRow 0x17 = .one .illegal17)⟩
theorem clc : Statement .clc :=
  ⟨rfl, congrArg Row.operandLength (rfl : opcodeRow 0x18 = .one .clc)⟩
theorem oraAbsoluteY : Statement .oraAbsoluteY :=
  ⟨rfl, congrArg Row.operandLength (rfl : opcodeRow 0x19 = .one .oraAbsoluteY)⟩
theorem illegal1A : Statement .illegal1A :=
  ⟨rfl, congrArg Row.operandLength (rfl : opcodeRow 0x1A = .one .illegal1A)⟩
theorem illegal1B : Statement .illegal1B :=
  ⟨rfl, congrArg Row.operandLength (rfl : opcodeRow 0x1B = .one .illegal1B)⟩
theorem illegal1C : Statement .illegal1C :=
  ⟨rfl, congrArg Row.operandLength (rfl : opcodeRow 0x1C = .one .illegal1C)⟩
theorem oraAbsoluteX : Statement .oraAbsoluteX :=
  ⟨rfl, congrArg Row.operandLength (rfl : opcodeRow 0x1D = .one .oraAbsoluteX)⟩
theorem aslAbsoluteX (addr : Address) : Statement (.aslAbsoluteX addr) :=
  ⟨rfl, congrArg Row.operandLength (rfl : opcodeRow 0x1E = .three .aslAbsoluteX)⟩
theorem illegal1F : Statement .illegal1F :=
  ⟨rfl, congrArg Row.operandLength (rfl : opcodeRow 0x1F = .one .illegal1F)⟩
theorem jsr : Statement .jsr :=
  ⟨rfl, congrArg Row.operandLength (rfl : opcodeRow 0x20 = .one .jsr)⟩
theorem andIndirectX (ptr : Byte) : Statement (.andIndirectX ptr) :=
  ⟨rfl, congrArg Row.operandLength (rfl : opcodeRow 0x21 = .two .andIndirectX)⟩
theorem illegal22 : Statement .illegal22 :=
  ⟨rfl, congrArg Row.operandLength (rfl : opcodeRow 0x22 = .one .illegal22)⟩
theorem illegal23 : Statement .illegal23 :=
  ⟨rfl, congrArg Row.operandLength (rfl : opcodeRow 0x23 = .one .illegal23)⟩
theorem bitZeroPage : Statement .bitZeroPage :=
  ⟨rfl, congrArg Row.operandLength (rfl : opcodeRow 0x24 = .one .bitZeroPage)⟩
theorem andZeroPage (addr : Byte) : Statement (.andZeroPage addr) :=
  ⟨rfl, congrArg Row.operandLength (rfl : opcodeRow 0x25 = .two .andZeroPage)⟩
theorem rolZeroPage : Statement .rolZeroPage :=
  ⟨rfl, congrArg Row.operandLength (rfl : opcodeRow 0x26 = .one .rolZeroPage)⟩
theorem illegal27 : Statement .illegal27 :=
  ⟨rfl, congrArg Row.operandLength (rfl : opcodeRow 0x27 = .one .illegal27)⟩
theorem plp : Statement .plp :=
  ⟨rfl, congrArg Row.operandLength (rfl : opcodeRow 0x28 = .one .plp)⟩
theorem andImmediate (v : Byte) : Statement (.andImmediate v) :=
  ⟨rfl, congrArg Row.operandLength (rfl : opcodeRow 0x29 = .two .andImmediate)⟩
theorem rolAccumulator : Statement .rolAccumulator :=
  ⟨rfl, congrArg Row.operandLength (rfl : opcodeRow 0x2A = .one .rolAccumulator)⟩
theorem illegal2B : Statement .illegal2B :=
  ⟨rfl, congrArg Row.operandLength (rfl : opcodeRow 0x2B = .one .illegal2B)⟩
theorem bitAbsolute : Statement .bitAbsolute :=
  ⟨rfl, congrArg Row.operandLength (rfl : opcodeRow 0x2C = .one .bitAbsolute)⟩
theorem andAbsolute (addr : Address) : Statement (.andAbsolute addr) :=
  ⟨rfl, congrArg Row.operandLength (rfl : opcodeRow 0x2D = .three .andAbsolute)⟩
theorem rolAbsolute : Statement .rolAbsolute :=
  ⟨rfl, congrArg Row.operandLength (rfl : opcodeRow 0x2E = .one .rolAbsolute)⟩
theorem illegal2F : Statement .illegal2F :=
  ⟨rfl, congrArg Row.operandLength (rfl : opcodeRow 0x2F = .one .illegal2F)⟩
theorem bmi (d : Int) : Statement (.bmi d) :=
  ⟨rfl, congrArg Row.operandLength (rfl : opcodeRow 0x30 = .relative .bmi)⟩
theorem andIndirectY (ptr : Byte) : Statement (.andIndirectY ptr) :=
  ⟨rfl, congrArg Row.operandLength (rfl : opcodeRow 0x31 = .two .andIndirectY)⟩
theorem illegal32 : Statement .illegal32 :=
  ⟨rfl, congrArg Row.operandLength (rfl : opcodeRow 0x32 = .one .illegal32)⟩
theorem illegal33 : Statement .illegal33 :=
  ⟨rfl, congrArg Row.operandLength (rfl : opcodeRow 0x33 = .one .illegal33)⟩
theorem illegal34 : Statement .illegal34 :=
  ⟨rfl, congrArg Row.operandLength (rfl : opcodeRow 0x34 = .one .illegal34)⟩
theorem andZeroPageX (addr : Byte) : Statement (.andZeroPageX addr) :=
  ⟨rfl, congrArg Row.operandLength (rfl : opcodeRow 0x35 = .two .andZeroPageX)⟩
theorem rolZeroPageX : Statement .rolZeroPageX :=
  ⟨rfl, congrArg Row.operandLength (rfl : opcodeRow 0x36 = .one .rolZeroPageX)⟩
theorem illegal37 : Statement .illegal37 :=
  ⟨rfl, congrArg Row.operandLength (rfl : opcodeRow 0x37 = .one .illegal37)⟩
theorem sec : Statement .sec :=
  ⟨rfl, congrArg Row.operandLength (rfl : opcodeRow 0x38 = .one .sec)⟩
theorem andAbsoluteY (addr : Address) : Statement (.andAbsoluteY addr) :=
  ⟨rfl, congrArg Row.operandLength (rfl : opcodeRow 0x39 = .three .andAbsoluteY)⟩
theorem illegal3A : Statement .illegal3A :=
  ⟨rfl, congrArg Row.operandLength (rfl : opcodeRow 0x3A = .one .illegal3A)⟩
theorem illegal3B : Statement .illegal3B :=
  ⟨rfl, congrArg Row.operandLength (rfl : opcodeRow 0x3B = .one .illegal3B)⟩
theorem illegal3C : Statement .illegal3C :=
  ⟨rfl, congrArg Row.operandLength (rfl : opcodeRow 0x3C = .one .illegal3C)⟩
theorem andAbsoluteX (addr : Address) : Statement (.andAbsoluteX addr) :=
  ⟨rfl, congrArg Row.operandLength (rfl : opcodeRow 0x3D = .three .andAbsoluteX)⟩
theorem rolAbsoluteX : Statement .rolAbsoluteX :=
  ⟨rfl, congrArg Row.operandLength (rfl : opcodeRow 0x3E = .one .rolAbsoluteX)⟩
theorem illegal3F : Statement .illegal3F :=
  ⟨rfl, congrArg Row.operandLength (rfl : opcodeRow 0x3F = .one .illegal3F)⟩
theorem rti : Statement .rti :=
  ⟨rfl, congrArg Row.operandLength (rfl : opcodeRow 0x40 = .one .rti)⟩
theorem eorIndirectX : Statement .eorIndirectX :=
  ⟨rfl, congrArg Row.operandLength (rfl : opcodeRow 0x41 = .one .eorIndirectX)⟩
theorem illegal42 : Statement .illegal42 :=
  ⟨rfl, congrArg Row.operandLength (rfl : opcodeRow 0x42 = .one .illegal42)⟩
theorem illegal43 : Statement .illegal43 :=
  ⟨rfl, congrArg Row.operandLength (rfl : opcodeRow 0x43 = .one .illegal43)⟩
theorem illegal44 : Statement .illegal44 :=
  ⟨rfl, congrArg Row.operandLength (rfl : opcodeRow 0x44 = .one .illegal44)⟩
theorem eorZeroPage : Statement .eorZeroPage :=
  ⟨rfl, congrArg Row.operandLength (rfl : opcodeRow 0x45 = .one .eorZeroPage)⟩
theorem lsrZeroPage : Statement .lsrZeroPage :=
  ⟨rfl, congrArg Row.operandLength (rfl : opcodeRow 0x46 = .one .lsrZeroPage)⟩
theorem illegal47 : Statement .illegal47 :=
  ⟨rfl, congrArg Row.operandLength (rfl : opcodeRow 0x47 = .one .illegal47)⟩
theorem pha : Statement .pha :=
  ⟨rfl, congrArg Row.operandLength (rfl : opcodeRow 0x48 = .one .pha)⟩
theorem eorImmediate : Statement .eorImmediate :=
  ⟨rfl, congrArg Row.operandLength (rfl : opcodeRow 0x49 = .one .eorImmediate)⟩
theorem lsrAccumulator : Statement .lsrAccumulator :=
  ⟨rfl, congrArg Row.operandLength (rfl : opcodeRow 0x4A = .one .lsrAccumulator)⟩
theorem illegal4B : Statement .illegal4B :=
  ⟨rfl, congrArg Row.operandLength (rfl : opcodeRow 0x4B = .one .illegal4B)⟩
theorem jmpAbsolute : Statement .jmpAbsolute :=
  ⟨rfl, congrArg Row.operandLength (rfl : opcodeRow 0x4C = .one .jmpAbsolute)⟩
theorem eorAbsolute : Statement .eorAbsolute :=
  ⟨rfl, congrArg Row.operandLength (rfl : opcodeRow 0x4D = .one .eorAbsolute)⟩
theorem lsrAbsolute : Statement .lsrAbsolute :=
  ⟨rfl, congrArg Row.operandLength (rfl : opcodeRow 0x4E = .one .lsrAbsolute)⟩
theorem illegal4F : Statement .illegal4F :=
  ⟨rfl, congrArg Row.operandLength (rfl : opcodeRow 0x4F = .one .illegal4F)⟩
theorem bvc (d : Int) : Statement (.bvc d) :=
  ⟨rfl, congrArg Row.operandLength (rfl : opcodeRow 0x50 = .relative .bvc)⟩
theorem eorIndirectY : Statement .eorIndirectY :=
  ⟨rfl, congrArg Row.operandLength (rfl : opcodeRow 0x51 = .one .eorIndirectY)⟩
theorem illegal52 : Statement .illegal52 :=
  ⟨rfl, congrArg Row.operandLength (rfl : opcodeRow 0x52 = .one .illegal52)⟩
theorem illegal53 : Statement .illegal53 :=
  ⟨rfl, congrArg Row.operandLength (rfl : opcodeRow 0x53 = .one .illegal53)⟩
theorem illegal54 : Statement .illegal54 :=
  ⟨rfl, congrArg Row.operandLength (rfl : opcodeRow 0x54 = .one .illegal54)⟩
theorem eorZeroPageX : Statement .eorZeroPageX :=
  ⟨rfl, congrArg Row.operandLength (rfl : opcodeRow 0x55 = .one .eorZeroPageX)⟩
theorem lsrZeroPageX : Statement .lsrZeroPageX :=
  ⟨rfl, congrArg Row.operandLength (rfl : opcodeRow 0x56 = .one .lsrZeroPageX)⟩
theorem illegal57 : Statement .illegal57 :=
  ⟨rfl, congrArg Row.operandLength (rfl : opcodeRow 0x57 = .one .illegal57)⟩
theorem cli : Statement .cli :=
  ⟨rfl, congrArg Row.operandLength (rfl : opcodeRow 0x58 = .one .cli)⟩
theorem eorAbsoluteY : Statement .eorAbsoluteY :=
  ⟨rfl, congrArg Row.operandLength (rfl : opcodeRow 0x59 = .one .eorAbsoluteY)⟩
theorem illegal5A : Statement .illegal5A :=
  ⟨rfl, congrArg Row.operandLength (rfl : opcodeRow 0x5A = .one .illegal5A)⟩
theorem illegal5B : Statement .illegal5B :=
  ⟨rfl, congrArg Row.operandLength (rfl : opcodeRow 0x5B = .one .illegal5B)⟩
theorem illegal5C : Statement .illegal5C :=
  ⟨rfl, congrArg Row.operandLength (rfl : opcodeRow 0x5C = .one .illegal5C)⟩
theorem eorAbsoluteX : Statement .eorAbsoluteX :=
  ⟨rfl, congrArg Row.operandLength (rfl : opcodeRow 0x5D = .one .eorAbsoluteX)⟩
theorem lsrAbsoluteX : Statement .lsrAbsoluteX :=
  ⟨rfl, congrArg Row.operandLength (rfl : opcodeRow 0x5E = .one .lsrAbsoluteX)⟩
theorem illegal5F : Statement .illegal5F :=
  ⟨rfl, congrArg Row.operandLength (rfl : opcodeRow 0x5F = .one .illegal5F)⟩
theorem rts : Statement .rts :=
  ⟨rfl, congrArg Row.operandLength (rfl : opcodeRow 0x60 = .one .rts)⟩
theorem adcIndirectX (ptr : Byte) : Statement (.adcIndirectX ptr) :=
  ⟨rfl, congrArg Row.operandLength (rfl : opcodeRow 0x61 = .two .adcIndirectX)⟩
theorem illegal62 : Statement .illegal62 :=
  ⟨rfl, congrArg Row.operandLength (rfl : opcodeRow 0x62 = .one .illegal62)⟩
theorem illegal63 : Statement .illegal63 :=
  ⟨rfl, congrArg Row.operandLength (rfl : opcodeRow 0x63 = .one .illegal63)⟩
theorem illegal64 : Statement .illegal64 :=
  ⟨rfl, congrArg Row.operandLength (rfl : opcodeRow 0x64 = .one .illegal64)⟩
theorem adcZeroPage (addr : Byte) : Statement (.adcZeroPage addr) :=
  ⟨rfl, congrArg Row.operandLength (rfl : opcodeRow 0x65 = .two .adcZeroPage)⟩
theorem rorZeroPage : Statement .rorZeroPage :=
  ⟨rfl, congrArg Row.operandLength (rfl : opcodeRow 0x66 = .one .rorZeroPage)⟩
theorem illegal67 : Statement .illegal67 :=
  ⟨rfl, congrArg Row.operandLength (rfl : opcodeRow 0x67 = .one .illegal67)⟩
theorem pla : Statement .pla :=
  ⟨rfl, congrArg Row.operandLength (rfl : opcodeRow 0x68 = .one .pla)⟩
theorem adcImmediate (v : Byte) : Statement (.adcImmediate v) :=
  ⟨rfl, congrArg Row.operandLength (rfl : opcodeRow 0x69 = .two .adcImmediate)⟩
theorem rorAccumulator : Statement .rorAccumulator :=
  ⟨rfl, congrArg Row.operandLength (rfl : opcodeRow 0x6A = .one .rorAccumulator)⟩
theorem illegal6B : Statement .illegal6B :=
  ⟨rfl, congrArg Row.operandLength (rfl : opcodeRow 0x6B = .one .illegal6B)⟩
theorem jmpIndirect : Statement .jmpIndirect :=
  ⟨rfl, congrArg Row.operandLength (rfl : opcodeRow 0x6C = .one .jmpIndirect)⟩
theorem adcAbsolute (addr : Address) : Statement (.adcAbsolute addr) :=
  ⟨rfl, congrArg Row.operandLength (rfl : opcodeRow 0x6D = .three .adcAbsolute)⟩
theorem rorAbsolute : Statement .rorAbsolute :=
  ⟨rfl, congrArg Row.operandLength (rfl : opcodeRow 0x6E = .one .rorAbsolute)⟩
theorem illegal6F : Statement .illegal6F :=
  ⟨rfl, congrArg Row.operandLength (rfl : opcodeRow 0x6F = .one .illegal6F)⟩
theorem bvs (d : Int) : Statement (.bvs d) :=
  ⟨rfl, congrArg Row.operandLength (rfl : opcodeRow 0x70 = .relative .bvs)⟩
theorem adcIndirectY (ptr : Byte) : Statement (.adcIndirectY ptr) :=
  ⟨rfl, congrArg Row.operandLength (rfl : opcodeRow 0x71 = .two .adcIndirectY)⟩
theorem illegal72 : Statement .illegal72 :=
  ⟨rfl, congrArg Row.operandLength (rfl : opcodeRow 0x72 = .one .illegal72)⟩
theorem illegal73 : Statement .illegal73 :=
  ⟨rfl, congrArg Row.operandLength (rfl : opcodeRow 0x73 = .one .illegal73)⟩
theorem illegal74 : Statement .illegal74 :=
  ⟨rfl, congrArg Row.operandLength (rfl : opcodeRow 0x74 = .one .illegal74)⟩
theorem adcZeroPageX (addr : Byte) : Statement (.adcZeroPageX addr) :=
  ⟨rfl, congrArg Row.operandLength (rfl : opcodeRow 0x75 = .two .adcZeroPageX)⟩
theorem rorZeroPageX : Statement .rorZeroPageX :=
  ⟨rfl, congrArg Row.operandLength (rfl : opcodeRow 0x76 = .one .rorZeroPageX)⟩
theorem illegal77 : Statement .illegal77 :=
  ⟨rfl, congrArg Row.operandLength (rfl : opcodeRow 0x77 = .one .illegal77)⟩
theorem sei : Statement .sei :=
  ⟨rfl, congrArg Row.operandLength (rfl : opcodeRow 0x78 = .one .sei)⟩
theorem adcAbsoluteY (addr : Address) : Statement (.adcAbsoluteY addr) :=
  ⟨rfl, congrArg Row.operandLength (rfl : opcodeRow 0x79 = .three .adcAbsoluteY)⟩
theorem illegal7A : Statement .illegal7A :=
  ⟨rfl, congrArg Row.operandLength (rfl : opcodeRow 0x7A = .one .illegal7A)⟩
theorem illegal7B : Statement .illegal7B :=
  ⟨rfl, congrArg Row.operandLength (rfl : opcodeRow 0x7B = .one .illegal7B)⟩
theorem illegal7C : Statement .illegal7C :=
  ⟨rfl, congrArg Row.operandLength (rfl : opcodeRow 0x7C = .one .illegal7C)⟩
theorem adcAbsoluteX (addr : Address) : Statement (.adcAbsoluteX addr) :=
  ⟨rfl, congrArg Row.operandLength (rfl : opcodeRow 0x7D = .three .adcAbsoluteX)⟩
theorem rorAbsoluteX : Statement .rorAbsoluteX :=
  ⟨rfl, congrArg Row.operandLength (rfl : opcodeRow 0x7E = .one .rorAbsoluteX)⟩
theorem illegal7F : Statement .illegal7F :=
  ⟨rfl, congrArg Row.operandLength (rfl : opcodeRow 0x7F = .one .illegal7F)⟩
theorem illegal80 : Statement .illegal80 :=
  ⟨rfl, congrArg Row.operandLength (rfl : opcodeRow 0x80 = .one .illegal80)⟩
theorem staIndirectX (ptr : Byte) : Statement (.staIndirectX ptr) :=
  ⟨rfl, congrArg Row.operandLength (rfl : opcodeRow 0x81 = .two .staIndirectX)⟩
theorem illegal82 : Statement .illegal82 :=
  ⟨rfl, congrArg Row.operandLength (rfl : opcodeRow 0x82 = .one .illegal82)⟩
theorem illegal83 : Statement .illegal83 :=
  ⟨rfl, congrArg Row.operandLength (rfl : opcodeRow 0x83 = .one .illegal83)⟩
theorem styZeroPage (addr : Byte) : Statement (.styZeroPage addr) :=
  ⟨rfl, congrArg Row.operandLength (rfl : opcodeRow 0x84 = .two .styZeroPage)⟩
theorem staZeroPage (addr : Byte) : Statement (.staZeroPage addr) :=
  ⟨rfl, congrArg Row.operandLength (rfl : opcodeRow 0x85 = .two .staZeroPage)⟩
theorem stxZeroPage (addr : Byte) : Statement (.stxZeroPage addr) :=
  ⟨rfl, congrArg Row.operandLength (rfl : opcodeRow 0x86 = .two .stxZeroPage)⟩
theorem illegal87 : Statement .illegal87 :=
  ⟨rfl, congrArg Row.operandLength (rfl : opcodeRow 0x87 = .one .illegal87)⟩
theorem dey : Statement .dey :=
  ⟨rfl, congrArg Row.operandLength (rfl : opcodeRow 0x88 = .one .dey)⟩
theorem illegal89 : Statement .illegal89 :=
  ⟨rfl, congrArg Row.operandLength (rfl : opcodeRow 0x89 = .one .illegal89)⟩
theorem txa : Statement .txa :=
  ⟨rfl, congrArg Row.operandLength (rfl : opcodeRow 0x8A = .one .txa)⟩
theorem illegal8B : Statement .illegal8B :=
  ⟨rfl, congrArg Row.operandLength (rfl : opcodeRow 0x8B = .one .illegal8B)⟩
theorem styAbsolute (addr : Address) : Statement (.styAbsolute addr) :=
  ⟨rfl, congrArg Row.operandLength (rfl : opcodeRow 0x8C = .three .styAbsolute)⟩
theorem staAbsolute (addr : Address) : Statement (.staAbsolute addr) :=
  ⟨rfl, congrArg Row.operandLength (rfl : opcodeRow 0x8D = .three .staAbsolute)⟩
theorem stxAbsolute (addr : Address) : Statement (.stxAbsolute addr) :=
  ⟨rfl, congrArg Row.operandLength (rfl : opcodeRow 0x8E = .three .stxAbsolute)⟩
theorem illegal8F : Statement .illegal8F :=
  ⟨rfl, congrArg Row.operandLength (rfl : opcodeRow 0x8F = .one .illegal8F)⟩
theorem bcc (d : Int) : Statement (.bcc d) :=
  ⟨rfl, congrArg Row.operandLength (rfl : opcodeRow 0x90 = .relative .bcc)⟩
theorem staIndirectY (ptr : Byte) : Statement (.staIndirectY ptr) :=
  ⟨rfl, congrArg Row.operandLength (rfl : opcodeRow 0x91 = .two .staIndirectY)⟩
theorem illegal92 : Statement .illegal92 :=
  ⟨rfl, congrArg Row.operandLength (rfl : opcodeRow 0x92 = .one .illegal92)⟩
theorem illegal93 : Statement .illegal93 :=
  ⟨rfl, congrArg Row.operandLength (rfl : opcodeRow 0x93 = .one .illegal93)⟩
theorem styZeroPageX (addr : Byte) : Statement (.styZeroPageX addr) :=
  ⟨rfl, congrArg Row.operandLength (rfl : opcodeRow 0x94 = .two .styZeroPageX)⟩
theorem staZeroPageX (addr : Byte) : Statement (.staZeroPageX addr) :=
  ⟨rfl, congrArg Row.operandLength (rfl : opcodeRow 0x95 = .two .staZeroPageX)⟩
theorem stxZeroPageY (addr : Byte) : Statement (.stxZeroPageY addr) :=
  ⟨rfl, congrArg Row.operandLength (rfl : opcodeRow 0x96 = .two .stxZeroPageY)⟩
theorem illegal97 : Statement .illegal97 :=
  ⟨rfl, congrArg Row.operandLength (rfl : opcodeRow 0x97 = .one .illegal97)⟩
theorem tya : Statement .tya :=
  ⟨rfl, congrArg Row.operandLength (rfl : opcodeRow 0x98 = .one .tya)⟩
theorem staAbsoluteY (addr : Address) : Statement (.staAbsoluteY addr) :=
  ⟨rfl, congrArg Row.operandLength (rfl : opcodeRow 0x99 = .three .staAbsoluteY)⟩
theorem txs : Statement .txs :=
  ⟨rfl, congrArg Row.operandLength (rfl : opcodeRow 0x9A = .one .txs)⟩
theorem illegal9B : Statement .illegal9B :=
  ⟨rfl, congrArg Row.operandLength (rfl : opcodeRow 0x9B = .one .illegal9B)⟩
theorem illegal9C : Statement .illegal9C :=
  ⟨rfl, congrArg Row.operandLength (rfl : opcodeRow 0x9C = .one .illegal9C)⟩
theorem staAbsoluteX (addr : Address) : Statement (.staAbsoluteX addr) :=
  ⟨rfl, congrArg Row.operandLength (rfl : opcodeRow 0x9D = .three .staAbsoluteX)⟩
theorem illegal9E : Statement .illegal9E :=
  ⟨rfl, congrArg Row.operandLength (rfl : opcodeRow 0x9E = .one .illegal9E)⟩
theorem illegal9F : Statement .illegal9F :=
  ⟨rfl, congrArg Row.operandLength (rfl : opcodeRow 0x9F = .one .illegal9F)⟩
theorem ldyImmediate : Statement .ldyImmediate :=
  ⟨rfl, congrArg Row.operandLength (rfl : opcodeRow 0xA0 = .one .ldyImmediate)⟩
theorem ldaIndirectX (ptr : Byte) : Statement (.ldaIndirectX ptr) :=
  ⟨rfl, congrArg Row.operandLength (rfl : opcodeRow 0xA1 = .two .ldaIndirectX)⟩
theorem ldxImmediate : Statement .ldxImmediate :=
  ⟨rfl, congrArg Row.operandLength (rfl : opcodeRow 0xA2 = .one .ldxImmediate)⟩
theorem illegalA3 : Statement .illegalA3 :=
  ⟨rfl, congrArg Row.operandLength (rfl : opcodeRow 0xA3 = .one .illegalA3)⟩
theorem ldyZeroPage : Statement .ldyZeroPage :=
  ⟨rfl, congrArg Row.operandLength (rfl : opcodeRow 0xA4 = .one .ldyZeroPage)⟩
theorem ldaZeroPage (addr : Byte) : Statement (.ldaZeroPage addr) :=
  ⟨rfl, congrArg Row.operandLength (rfl : opcodeRow 0xA5 = .two .ldaZeroPage)⟩
theorem ldxZeroPage : Statement .ldxZeroPage :=
  ⟨rfl, congrArg Row.operandLength (rfl : opcodeRow 0xA6 = .one .ldxZeroPage)⟩
theorem illegalA7 : Statement .illegalA7 :=
  ⟨rfl, congrArg Row.operandLength (rfl : opcodeRow 0xA7 = .one .illegalA7)⟩
theorem tay : Statement .tay :=
  ⟨rfl, congrArg Row.operandLength (rfl : opcodeRow 0xA8 = .one .tay)⟩
theorem ldaImmediate (v : Byte) : Statement (.ldaImmediate v) :=
  ⟨rfl, congrArg Row.operandLength (rfl : opcodeRow 0xA9 = .two .ldaImmediate)⟩
theorem tax : Statement .tax :=
  ⟨rfl, congrArg Row.operandLength (rfl : opcodeRow 0xAA = .one .tax)⟩
theorem illegalAB : Statement .illegalAB :=
  ⟨rfl, congrArg Row.operandLength (rfl : opcodeRow 0xAB = .one .illegalAB)⟩
theorem ldyAbsolute : Statement .ldyAbsolute :=
  ⟨rfl, congrArg Row.operandLength (rfl : opcodeRow 0xAC = .one .ldyAbsolute)⟩
theorem ldaAbsolute (addr : Address) : Statement (.ldaAbsolute addr) :=
  ⟨rfl, congrArg Row.operandLength (rfl : opcodeRow 0xAD = .three .ldaAbsolute)⟩
theorem ldxAbsolute : Statement .ldxAbsolute :=
  ⟨rfl, congrArg Row.operandLength (rfl : opcodeRow 0xAE = .one .ldxAbsolute)⟩
theorem illegalAF : Statement .illegalAF :=
  ⟨rfl, congrArg Row.operandLength (rfl : opcodeRow 0xAF = .one .illegalAF)⟩
theorem bcs (d : Int) : Statement (.bcs d) :=
  ⟨rfl, congrArg Row.operandLength (rfl : opcodeRow 0xB0 = .relative .bcs)⟩
theorem ldaIndirectY (ptr : Byte) : Statement (.ldaIndirectY ptr) :=
  ⟨rfl, congrArg Row.operandLength (rfl : opcodeRow 0xB1 = .two .ldaIndirectY)⟩
theorem illegalB2 : Statement .illegalB2 :=
  ⟨rfl, congrArg Row.operandLength (rfl : opcodeRow 0xB2 = .one .illegalB2)⟩
theorem illegalB3 : Statement .illegalB3 :=
  ⟨rfl, congrArg Row.operandLength (rfl : opcodeRow 0xB3 = .one .illegalB3)⟩
theorem ldyZeroPageX : Statement .ldyZeroPageX :=
  ⟨rfl, congrArg Row.operandLength (rfl : opcodeRow 0xB4 = .one .ldyZeroPageX)⟩
theorem ldaZeroPageX (addr : Byte) : Statement (.ldaZeroPageX addr) :=
  ⟨rfl, congrArg Row.operandLength (rfl : opcodeRow 0xB5 = .two .ldaZeroPageX)⟩
theorem ldxZeroPageY : Statement .ldxZeroPageY :=
  ⟨rfl, congrArg Row.operandLength (rfl : opcodeRow 0xB6 = .one .ldxZeroPageY)⟩
theorem illegalB7 : Statement .illegalB7 :=
  ⟨rfl, congrArg Row.operandLength (rfl : opcodeRow 0xB7 = .one .illegalB7)⟩
theorem clv : Statement .clv :=
  ⟨rfl, congrArg Row.operandLength (rfl : opcodeRow 0xB8 = .one .clv)⟩
theorem ldaAbsoluteY (addr : Address) : Statement (.ldaAbsoluteY addr) :=
  ⟨rfl, congrArg Row.operandLength (rfl : opcodeRow 0xB9 = .three .ldaAbsoluteY)⟩
theorem tsx : Statement .tsx :=
  ⟨rfl, congrArg Row.operandLength (rfl : opcodeRow 0xBA = .one .tsx)⟩
theorem illegalBB : Statement .illegalBB :=
  ⟨rfl, congrArg Row.operandLength (rfl : opcodeRow 0xBB = .one .illegalBB)⟩
theorem ldyAbsoluteX : Statement .ldyAbsoluteX :=
  ⟨rfl, congrArg Row.operandLength (rfl : opcodeRow 0xBC = .one .ldyAbsoluteX)⟩
theorem ldaAbsoluteX (addr : Address) : Statement (.ldaAbsoluteX addr) :=
  ⟨rfl, congrArg Row.operandLength (rfl : opcodeRow 0xBD = .three .ldaAbsoluteX)⟩
theorem ldxAbsoluteY : Statement .ldxAbsoluteY :=
  ⟨rfl, congrArg Row.operandLength (rfl : opcodeRow 0xBE = .one .ldxAbsoluteY)⟩
theorem illegalBF : Statement .illegalBF :=
  ⟨rfl, congrArg Row.operandLength (rfl : opcodeRow 0xBF = .one .illegalBF)⟩
theorem cpyImmediate : Statement .cpyImmediate :=
  ⟨rfl, congrArg Row.operandLength (rfl : opcodeRow 0xC0 = .one .cpyImmediate)⟩
theorem cmpIndirectX : Statement .cmpIndirectX :=
  ⟨rfl, congrArg Row.operandLength (rfl : opcodeRow 0xC1 = .one .cmpIndirectX)⟩
theorem illegalC2 : Statement .illegalC2 :=
  ⟨rfl, congrArg Row.operandLength (rfl : opcodeRow 0xC2 = .one .illegalC2)⟩
theorem illegalC3 : Statement .illegalC3 :=
  ⟨rfl, congrArg Row.operandLength (rfl : opcodeRow 0xC3 = .one .illegalC3)⟩
theorem cpyZeroPage : Statement .cpyZeroPage :=
  ⟨rfl, congrArg Row.operandLength (rfl : opcodeRow 0xC4 = .one .cpyZeroPage)⟩
theorem cmpZeroPage : Statement .cmpZeroPage :=
  ⟨rfl, congrArg Row.operandLength (rfl : opcodeRow 0xC5 = .one .cmpZeroPage)⟩
theorem decZeroPage : Statement .decZeroPage :=
  ⟨rfl, congrArg Row.operandLength (rfl : opcodeRow 0xC6 = .one .decZeroPage)⟩
theorem illegalC7 : Statement .illegalC7 :=
  ⟨rfl, congrArg Row.operandLength (rfl : opcodeRow 0xC7 = .one .illegalC7)⟩
theorem iny : Statement .iny :=
  ⟨rfl, congrArg Row.operandLength (rfl : opcodeRow 0xC8 = .one .iny)⟩
theorem cmpImmediate : Statement .cmpImmediate :=
  ⟨rfl, congrArg Row.operandLength (rfl : opcodeRow 0xC9 = .one .cmpImmediate)⟩
theorem dex : Statement .dex :=
  ⟨rfl, congrArg Row.operandLength (rfl : opcodeRow 0xCA = .one .dex)⟩
theorem illegalCB : Statement .illegalCB :=
  ⟨rfl, congrArg Row.operandLength (rfl : opcodeRow 0xCB = .one .illegalCB)⟩
theorem cpyAbsolute : Statement .cpyAbsolute :=
  ⟨rfl, congrArg Row.operandLength (rfl : opcodeRow 0xCC = .one .cpyAbsolute)⟩
theorem cmpAbsolute : Statement .cmpAbsolute :=
  ⟨rfl, congrArg Row.operandLength (rfl : opcodeRow 0xCD = .one .cmpAbsolute)⟩
theorem decAbsolute : Statement .decAbsolute :=
  ⟨rfl, congrArg Row.operandLength (rfl : opcodeRow 0xCE = .one .decAbsolute)⟩
theorem illegalCF : Statement .illegalCF :=
  ⟨rfl, congrArg Row.operandLength (rfl : opcodeRow 0xCF = .one .illegalCF)⟩
theorem bne (d : Int) : Statement (.bne d) :=
  ⟨rfl, congrArg Row.operandLength (rfl : opcodeRow 0xD0 = .relative .bne)⟩
theorem cmpIndirectY : Statement .cmpIndirectY :=
  ⟨rfl, congrArg Row.operandLength (rfl : opcodeRow 0xD1 = .one .cmpIndirectY)⟩
theorem illegalD2 : Statement .illegalD2 :=
  ⟨rfl, congrArg Row.operandLength (rfl : opcodeRow 0xD2 = .one .illegalD2)⟩
theorem illegalD3 : Statement .illegalD3 :=
  ⟨rfl, congrArg Row.operandLength (rfl : opcodeRow 0xD3 = .one .illegalD3)⟩
theorem illegalD4 : Statement .illegalD4 :=
  ⟨rfl, congrArg Row.operandLength (rfl : opcodeRow 0xD4 = .one .illegalD4)⟩
theorem cmpZeroPageX : Statement .cmpZeroPageX :=
  ⟨rfl, congrArg Row.operandLength (rfl : opcodeRow 0xD5 = .one .cmpZeroPageX)⟩
theorem decZeroPageX : Statement .decZeroPageX :=
  ⟨rfl, congrArg Row.operandLength (rfl : opcodeRow 0xD6 = .one .decZeroPageX)⟩
theorem illegalD7 : Statement .illegalD7 :=
  ⟨rfl, congrArg Row.operandLength (rfl : opcodeRow 0xD7 = .one .illegalD7)⟩
theorem cld : Statement .cld :=
  ⟨rfl, congrArg Row.operandLength (rfl : opcodeRow 0xD8 = .one .cld)⟩
theorem cmpAbsoluteY : Statement .cmpAbsoluteY :=
  ⟨rfl, congrArg Row.operandLength (rfl : opcodeRow 0xD9 = .one .cmpAbsoluteY)⟩
theorem illegalDA : Statement .illegalDA :=
  ⟨rfl, congrArg Row.operandLength (rfl : opcodeRow 0xDA = .one .illegalDA)⟩
theorem illegalDB : Statement .illegalDB :=
  ⟨rfl, congrArg Row.operandLength (rfl : opcodeRow 0xDB = .one .illegalDB)⟩
theorem illegalDC : Statement .illegalDC :=
  ⟨rfl, congrArg Row.operandLength (rfl : opcodeRow 0xDC = .one .illegalDC)⟩
theorem cmpAbsoluteX : Statement .cmpAbsoluteX :=
  ⟨rfl, congrArg Row.operandLength (rfl : opcodeRow 0xDD = .one .cmpAbsoluteX)⟩
theorem decAbsoluteX : Statement .decAbsoluteX :=
  ⟨rfl, congrArg Row.operandLength (rfl : opcodeRow 0xDE = .one .decAbsoluteX)⟩
theorem illegalDF : Statement .illegalDF :=
  ⟨rfl, congrArg Row.operandLength (rfl : opcodeRow 0xDF = .one .illegalDF)⟩
theorem cpxImmediate : Statement .cpxImmediate :=
  ⟨rfl, congrArg Row.operandLength (rfl : opcodeRow 0xE0 = .one .cpxImmediate)⟩
theorem sbcIndirectX : Statement .sbcIndirectX :=
  ⟨rfl, congrArg Row.operandLength (rfl : opcodeRow 0xE1 = .one .sbcIndirectX)⟩
theorem illegalE2 : Statement .illegalE2 :=
  ⟨rfl, congrArg Row.operandLength (rfl : opcodeRow 0xE2 = .one .illegalE2)⟩
theorem illegalE3 : Statement .illegalE3 :=
  ⟨rfl, congrArg Row.operandLength (rfl : opcodeRow 0xE3 = .one .illegalE3)⟩
theorem cpxZeroPage : Statement .cpxZeroPage :=
  ⟨rfl, congrArg Row.operandLength (rfl : opcodeRow 0xE4 = .one .cpxZeroPage)⟩
theorem sbcZeroPage : Statement .sbcZeroPage :=
  ⟨rfl, congrArg Row.operandLength (rfl : opcodeRow 0xE5 = .one .sbcZeroPage)⟩
theorem incZeroPage : Statement .incZeroPage :=
  ⟨rfl, congrArg Row.operandLength (rfl : opcodeRow 0xE6 = .one .incZeroPage)⟩
theorem illegalE7 : Statement .illegalE7 :=
  ⟨rfl, congrArg Row.operandLength (rfl : opcodeRow 0xE7 = .one .illegalE7)⟩
theorem inx : Statement .inx :=
  ⟨rfl, congrArg Row.operandLength (rfl : opcodeRow 0xE8 = .one .inx)⟩
theorem sbcImmediate : Statement .sbcImmediate :=
  ⟨rfl, congrArg Row.operandLength (rfl : opcodeRow 0xE9 = .one .sbcImmediate)⟩
theorem nop : Statement .nop :=
  ⟨rfl, congrArg Row.operandLength (rfl : opcodeRow 0xEA = .one .nop)⟩
theorem illegalEB : Statement .illegalEB :=
  ⟨rfl, congrArg Row.operandLength (rfl : opcodeRow 0xEB = .one .illegalEB)⟩
theorem cpxAbsolute : Statement .cpxAbsolute :=
  ⟨rfl, congrArg Row.operandLength (rfl : opcodeRow 0xEC = .one .cpxAbsolute)⟩
theorem sbcAbsolute : Statement .sbcAbsolute :=
  ⟨rfl, congrArg Row.operandLength (rfl : opcodeRow 0xED = .one .sbcAbsolute)⟩
theorem incAbsolute : Statement .incAbsolute :=
  ⟨rfl, congrArg Row.operandLength (rfl : opcodeRow 0xEE = .one .incAbsolute)⟩
theorem illegalEF : Statement .illegalEF :=
  ⟨rfl, congrArg Row.operandLength (rfl : opcodeRow 0xEF = .one .illegalEF)⟩
theorem beq (d : Int) : Statement (.beq d) :=
  ⟨rfl, congrArg Row.operandLength (rfl : opcodeRow 0xF0 = .relative .beq)⟩
theorem sbcIndirectY : Statement .sbcIndirectY :=
  ⟨rfl, congrArg Row.operandLength (rfl : opcodeRow 0xF1 = .one .sbcIndirectY)⟩
theorem illegalF2 : Statement .illegalF2 :=
  ⟨rfl, congrArg Row.operandLength (rfl : opcodeRow 0xF2 = .one .illegalF2)⟩
theorem illegalF3 : Statement .illegalF3 :=
  ⟨rfl, congrArg Row.operandLength (rfl : opcodeRow 0xF3 = .one .illegalF3)⟩
theorem illegalF4 : Statement .illegalF4 :=
  ⟨rfl, congrArg Row.operandLength (rfl : opcodeRow 0xF4 = .one .illegalF4)⟩
theorem sbcZeroPageX : Statement .sbcZeroPageX :=
  ⟨rfl, congrArg Row.operandLength (rfl : opcodeRow 0xF5 = .one .sbcZeroPageX)⟩
theorem incZeroPageX : Statement .incZeroPageX :=
  ⟨rfl, congrArg Row.operandLength (rfl : opcodeRow 0xF6 = .one .incZeroPageX)⟩
theorem illegalF7 : Statement .illegalF7 :=
  ⟨rfl, congrArg Row.operandLength (rfl : opcodeRow 0xF7 = .one .illegalF7)⟩
theorem sed : Statement .sed :=
  ⟨rfl, congrArg Row.operandLength (rfl : opcodeRow 0xF8 = .one .sed)⟩
theorem sbcAbsoluteY : Statement .sbcAbsoluteY :=
  ⟨rfl, congrArg Row.operandLength (rfl : opcodeRow 0xF9 = .one .sbcAbsoluteY)⟩
theorem illegalFA : Statement .illegalFA :=
  ⟨rfl, congrArg Row.operandLength (rfl : opcodeRow 0xFA = .one .illegalFA)⟩
theorem illegalFB : Statement .illegalFB :=
  ⟨rfl, congrArg Row.operandLength (rfl : opcodeRow 0xFB = .one .illegalFB)⟩
theorem illegalFC : Statement .illegalFC :=
  ⟨rfl, congrArg Row.operandLength (rfl : opcodeRow 0xFC = .one .illegalFC)⟩
theorem sbcAbsoluteX : Statement .sbcAbsoluteX :=
  ⟨rfl, congrArg Row.operandLength (rfl : opcodeRow 0xFD = .one .sbcAbsoluteX)⟩
theorem incAbsoluteX : Statement .incAbsoluteX :=
  ⟨rfl, congrArg Row.operandLength (rfl : opcodeRow 0xFE = .one .incAbsoluteX)⟩
theorem illegalFF : Statement .illegalFF :=
  ⟨rfl, congrArg Row.operandLength (rfl : opcodeRow 0xFF = .one .illegalFF)⟩

end Sys2Proof.Laws.OpcodeAndLength
end

