-- ==== Sys2Proof/Tests/Slice0.lean ====
section
/-! SUPPORT. The model's own tests: expected values come from the spec (30_encoding.md R83 to R87, 42_alu.md R183,
95_test_vectors.md), never from the model; and for every statement with hypotheses a state and operands that meet them. -/

open Sys2Proof Sys2Proof.Machine

namespace Sys2Proof.Tests

/-! ### Well-formedness -/

theorem test_displacement_too_high_refused : (Instr.bcc 128).wellFormed = false := by decide
theorem test_displacement_too_low_refused : (Instr.bvs (-129)).wellFormed = false := by decide
theorem test_displacement_bounds_accepted : (Instr.beq 127).wellFormed = true ∧ (Instr.bne (-128)).wellFormed = true := by
  decide

/-! ### Decoding -/

/-- Each list of bytes decodes to its instruction with nothing left, and the instruction encodes to it. -/
def wordsDecode (l : List (List Byte × Instr)) : Bool :=
  l.all fun r => (match decode r.1 with | .ok (i, rest) => decide (i = r.2 ∧ rest = []) | .error _ => false) &&
    decide (encode r.2 = r.1)

/-- Row 0x of the map of R84: the words of R83, R86 and R87, with operand bytes 0x9C, 0xFB or 0x34 0x12. -/
theorem test_decode_row_0 : wordsDecode [
    ([0x00], .brk), ([0x01], .oraIndirectX), ([0x02], .illegal02), ([0x03], .illegal03),
    ([0x04], .illegal04), ([0x05], .oraZeroPage), ([0x06, 0x9C], .aslZeroPage 0x9C), ([0x07], .illegal07),
    ([0x08], .php), ([0x09], .oraImmediate), ([0x0A], .aslAccumulator), ([0x0B], .illegal0B),
    ([0x0C], .illegal0C), ([0x0D], .oraAbsolute), ([0x0E, 0x34, 0x12], .aslAbsolute 0x1234), ([0x0F], .illegal0F)] = true := by decide

/-- Row 1x of the map of R84: the words of R83, R86 and R87, with operand bytes 0x9C, 0xFB or 0x34 0x12. -/
theorem test_decode_row_1 : wordsDecode [
    ([0x10, 0xFB], .bpl (-5)), ([0x11], .oraIndirectY), ([0x12], .illegal12), ([0x13], .illegal13),
    ([0x14], .illegal14), ([0x15], .oraZeroPageX), ([0x16, 0x9C], .aslZeroPageX 0x9C), ([0x17], .illegal17),
    ([0x18], .clc), ([0x19], .oraAbsoluteY), ([0x1A], .illegal1A), ([0x1B], .illegal1B),
    ([0x1C], .illegal1C), ([0x1D], .oraAbsoluteX), ([0x1E, 0x34, 0x12], .aslAbsoluteX 0x1234), ([0x1F], .illegal1F)] = true := by decide

/-- Row 2x of the map of R84: the words of R83, R86 and R87, with operand bytes 0x9C, 0xFB or 0x34 0x12. -/
theorem test_decode_row_2 : wordsDecode [
    ([0x20], .jsr), ([0x21, 0x9C], .andIndirectX 0x9C), ([0x22], .illegal22), ([0x23], .illegal23),
    ([0x24], .bitZeroPage), ([0x25, 0x9C], .andZeroPage 0x9C), ([0x26], .rolZeroPage), ([0x27], .illegal27),
    ([0x28], .plp), ([0x29, 0x9C], .andImmediate 0x9C), ([0x2A], .rolAccumulator), ([0x2B], .illegal2B),
    ([0x2C], .bitAbsolute), ([0x2D, 0x34, 0x12], .andAbsolute 0x1234), ([0x2E], .rolAbsolute), ([0x2F], .illegal2F)] = true := by decide

/-- Row 3x of the map of R84: the words of R83, R86 and R87, with operand bytes 0x9C, 0xFB or 0x34 0x12. -/
theorem test_decode_row_3 : wordsDecode [
    ([0x30, 0xFB], .bmi (-5)), ([0x31, 0x9C], .andIndirectY 0x9C), ([0x32], .illegal32), ([0x33], .illegal33),
    ([0x34], .illegal34), ([0x35, 0x9C], .andZeroPageX 0x9C), ([0x36], .rolZeroPageX), ([0x37], .illegal37),
    ([0x38], .sec), ([0x39, 0x34, 0x12], .andAbsoluteY 0x1234), ([0x3A], .illegal3A), ([0x3B], .illegal3B),
    ([0x3C], .illegal3C), ([0x3D, 0x34, 0x12], .andAbsoluteX 0x1234), ([0x3E], .rolAbsoluteX), ([0x3F], .illegal3F)] = true := by decide

/-- Row 4x of the map of R84: the words of R83, R86 and R87, with operand bytes 0x9C, 0xFB or 0x34 0x12. -/
theorem test_decode_row_4 : wordsDecode [
    ([0x40], .rti), ([0x41], .eorIndirectX), ([0x42], .illegal42), ([0x43], .illegal43),
    ([0x44], .illegal44), ([0x45], .eorZeroPage), ([0x46], .lsrZeroPage), ([0x47], .illegal47),
    ([0x48], .pha), ([0x49], .eorImmediate), ([0x4A], .lsrAccumulator), ([0x4B], .illegal4B),
    ([0x4C], .jmpAbsolute), ([0x4D], .eorAbsolute), ([0x4E], .lsrAbsolute), ([0x4F], .illegal4F)] = true := by decide

/-- Row 5x of the map of R84: the words of R83, R86 and R87, with operand bytes 0x9C, 0xFB or 0x34 0x12. -/
theorem test_decode_row_5 : wordsDecode [
    ([0x50, 0xFB], .bvc (-5)), ([0x51], .eorIndirectY), ([0x52], .illegal52), ([0x53], .illegal53),
    ([0x54], .illegal54), ([0x55], .eorZeroPageX), ([0x56], .lsrZeroPageX), ([0x57], .illegal57),
    ([0x58], .cli), ([0x59], .eorAbsoluteY), ([0x5A], .illegal5A), ([0x5B], .illegal5B),
    ([0x5C], .illegal5C), ([0x5D], .eorAbsoluteX), ([0x5E], .lsrAbsoluteX), ([0x5F], .illegal5F)] = true := by decide

/-- Row 6x of the map of R84: the words of R83, R86 and R87, with operand bytes 0x9C, 0xFB or 0x34 0x12. -/
theorem test_decode_row_6 : wordsDecode [
    ([0x60], .rts), ([0x61, 0x9C], .adcIndirectX 0x9C), ([0x62], .illegal62), ([0x63], .illegal63),
    ([0x64], .illegal64), ([0x65, 0x9C], .adcZeroPage 0x9C), ([0x66], .rorZeroPage), ([0x67], .illegal67),
    ([0x68], .pla), ([0x69, 0x9C], .adcImmediate 0x9C), ([0x6A], .rorAccumulator), ([0x6B], .illegal6B),
    ([0x6C], .jmpIndirect), ([0x6D, 0x34, 0x12], .adcAbsolute 0x1234), ([0x6E], .rorAbsolute), ([0x6F], .illegal6F)] = true := by decide

/-- Row 7x of the map of R84: the words of R83, R86 and R87, with operand bytes 0x9C, 0xFB or 0x34 0x12. -/
theorem test_decode_row_7 : wordsDecode [
    ([0x70, 0xFB], .bvs (-5)), ([0x71, 0x9C], .adcIndirectY 0x9C), ([0x72], .illegal72), ([0x73], .illegal73),
    ([0x74], .illegal74), ([0x75, 0x9C], .adcZeroPageX 0x9C), ([0x76], .rorZeroPageX), ([0x77], .illegal77),
    ([0x78], .sei), ([0x79, 0x34, 0x12], .adcAbsoluteY 0x1234), ([0x7A], .illegal7A), ([0x7B], .illegal7B),
    ([0x7C], .illegal7C), ([0x7D, 0x34, 0x12], .adcAbsoluteX 0x1234), ([0x7E], .rorAbsoluteX), ([0x7F], .illegal7F)] = true := by decide

/-- Row 8x of the map of R84: the words of R83, R86 and R87, with operand bytes 0x9C, 0xFB or 0x34 0x12. -/
theorem test_decode_row_8 : wordsDecode [
    ([0x80], .illegal80), ([0x81, 0x9C], .staIndirectX 0x9C), ([0x82], .illegal82), ([0x83], .illegal83),
    ([0x84, 0x9C], .styZeroPage 0x9C), ([0x85, 0x9C], .staZeroPage 0x9C), ([0x86, 0x9C], .stxZeroPage 0x9C), ([0x87], .illegal87),
    ([0x88], .dey), ([0x89], .illegal89), ([0x8A], .txa), ([0x8B], .illegal8B),
    ([0x8C, 0x34, 0x12], .styAbsolute 0x1234), ([0x8D, 0x34, 0x12], .staAbsolute 0x1234), ([0x8E, 0x34, 0x12], .stxAbsolute 0x1234), ([0x8F], .illegal8F)] = true := by decide

/-- Row 9x of the map of R84: the words of R83, R86 and R87, with operand bytes 0x9C, 0xFB or 0x34 0x12. -/
theorem test_decode_row_9 : wordsDecode [
    ([0x90, 0xFB], .bcc (-5)), ([0x91, 0x9C], .staIndirectY 0x9C), ([0x92], .illegal92), ([0x93], .illegal93),
    ([0x94, 0x9C], .styZeroPageX 0x9C), ([0x95, 0x9C], .staZeroPageX 0x9C), ([0x96, 0x9C], .stxZeroPageY 0x9C), ([0x97], .illegal97),
    ([0x98], .tya), ([0x99, 0x34, 0x12], .staAbsoluteY 0x1234), ([0x9A], .txs), ([0x9B], .illegal9B),
    ([0x9C], .illegal9C), ([0x9D, 0x34, 0x12], .staAbsoluteX 0x1234), ([0x9E], .illegal9E), ([0x9F], .illegal9F)] = true := by decide

/-- Row Ax of the map of R84: the words of R83, R86 and R87, with operand bytes 0x9C, 0xFB or 0x34 0x12. -/
theorem test_decode_row_A : wordsDecode [
    ([0xA0], .ldyImmediate), ([0xA1, 0x9C], .ldaIndirectX 0x9C), ([0xA2], .ldxImmediate), ([0xA3], .illegalA3),
    ([0xA4], .ldyZeroPage), ([0xA5, 0x9C], .ldaZeroPage 0x9C), ([0xA6], .ldxZeroPage), ([0xA7], .illegalA7),
    ([0xA8], .tay), ([0xA9, 0x9C], .ldaImmediate 0x9C), ([0xAA], .tax), ([0xAB], .illegalAB),
    ([0xAC], .ldyAbsolute), ([0xAD, 0x34, 0x12], .ldaAbsolute 0x1234), ([0xAE], .ldxAbsolute), ([0xAF], .illegalAF)] = true := by decide

/-- Row Bx of the map of R84: the words of R83, R86 and R87, with operand bytes 0x9C, 0xFB or 0x34 0x12. -/
theorem test_decode_row_B : wordsDecode [
    ([0xB0, 0xFB], .bcs (-5)), ([0xB1, 0x9C], .ldaIndirectY 0x9C), ([0xB2], .illegalB2), ([0xB3], .illegalB3),
    ([0xB4], .ldyZeroPageX), ([0xB5, 0x9C], .ldaZeroPageX 0x9C), ([0xB6], .ldxZeroPageY), ([0xB7], .illegalB7),
    ([0xB8], .clv), ([0xB9, 0x34, 0x12], .ldaAbsoluteY 0x1234), ([0xBA], .tsx), ([0xBB], .illegalBB),
    ([0xBC], .ldyAbsoluteX), ([0xBD, 0x34, 0x12], .ldaAbsoluteX 0x1234), ([0xBE], .ldxAbsoluteY), ([0xBF], .illegalBF)] = true := by decide

/-- Row Cx of the map of R84: the words of R83, R86 and R87, with operand bytes 0x9C, 0xFB or 0x34 0x12. -/
theorem test_decode_row_C : wordsDecode [
    ([0xC0], .cpyImmediate), ([0xC1], .cmpIndirectX), ([0xC2], .illegalC2), ([0xC3], .illegalC3),
    ([0xC4], .cpyZeroPage), ([0xC5], .cmpZeroPage), ([0xC6], .decZeroPage), ([0xC7], .illegalC7),
    ([0xC8], .iny), ([0xC9], .cmpImmediate), ([0xCA], .dex), ([0xCB], .illegalCB),
    ([0xCC], .cpyAbsolute), ([0xCD], .cmpAbsolute), ([0xCE], .decAbsolute), ([0xCF], .illegalCF)] = true := by decide

/-- Row Dx of the map of R84: the words of R83, R86 and R87, with operand bytes 0x9C, 0xFB or 0x34 0x12. -/
theorem test_decode_row_D : wordsDecode [
    ([0xD0, 0xFB], .bne (-5)), ([0xD1], .cmpIndirectY), ([0xD2], .illegalD2), ([0xD3], .illegalD3),
    ([0xD4], .illegalD4), ([0xD5], .cmpZeroPageX), ([0xD6], .decZeroPageX), ([0xD7], .illegalD7),
    ([0xD8], .cld), ([0xD9], .cmpAbsoluteY), ([0xDA], .illegalDA), ([0xDB], .illegalDB),
    ([0xDC], .illegalDC), ([0xDD], .cmpAbsoluteX), ([0xDE], .decAbsoluteX), ([0xDF], .illegalDF)] = true := by decide

/-- Row Ex of the map of R84: the words of R83, R86 and R87, with operand bytes 0x9C, 0xFB or 0x34 0x12. -/
theorem test_decode_row_E : wordsDecode [
    ([0xE0], .cpxImmediate), ([0xE1], .sbcIndirectX), ([0xE2], .illegalE2), ([0xE3], .illegalE3),
    ([0xE4], .cpxZeroPage), ([0xE5], .sbcZeroPage), ([0xE6], .incZeroPage), ([0xE7], .illegalE7),
    ([0xE8], .inx), ([0xE9], .sbcImmediate), ([0xEA], .nop), ([0xEB], .illegalEB),
    ([0xEC], .cpxAbsolute), ([0xED], .sbcAbsolute), ([0xEE], .incAbsolute), ([0xEF], .illegalEF)] = true := by decide

/-- Row Fx of the map of R84: the words of R83, R86 and R87, with operand bytes 0x9C, 0xFB or 0x34 0x12. -/
theorem test_decode_row_F : wordsDecode [
    ([0xF0, 0xFB], .beq (-5)), ([0xF1], .sbcIndirectY), ([0xF2], .illegalF2), ([0xF3], .illegalF3),
    ([0xF4], .illegalF4), ([0xF5], .sbcZeroPageX), ([0xF6], .incZeroPageX), ([0xF7], .illegalF7),
    ([0xF8], .sed), ([0xF9], .sbcAbsoluteY), ([0xFA], .illegalFA), ([0xFB], .illegalFB),
    ([0xFC], .illegalFC), ([0xFD], .sbcAbsoluteX), ([0xFE], .incAbsoluteX), ([0xFF], .illegalFF)] = true := by decide

/-- An opcode whose operand bytes are missing is refused by name. -/
theorem test_decode_truncated :
    (match decode [0xAD, 0x34] with | .error e => decide (e = .missingOperand 1 2) | .ok _ => false) = true := by decide
theorem test_decode_nothing :
    (match decode [] with | .error e => decide (e = .noOpcode) | .ok _ => false) = true := by decide
theorem test_decodeTableWord : decodeTableWord 24 0x1234AD = some (.ldaAbsolute 0x1234) ∧
    decodeTableWord 8 0xAD = some (.ldaAbsolute 0) ∧ decodeTableWord 8 0x02 = some .illegal02 := by decide

/-! ### Single steps -/

/-- A Running state with SP zero. -/
def start (pc : Address) (a x y : Byte) (p : Flags) (m : Memory) : State :=
  { pc := pc, sp := 0, a := a, x := x, y := y, p := p, runState := .running, mem := m }

/-- What a vector of the spec tells of a state: PC, A, X, Y, P, the run state and the bytes it watches. -/
structure View where
  pc : Address
  a : Byte
  x : Byte
  y : Byte
  p : Byte
  runState : RunState
  watched : List Byte
  deriving DecidableEq

/-- The view of the state a step answers. -/
def view (watch : List Address) (o : Host.Outcome State Fault Refusal) : Option View :=
  match o with
  | .next t => some ⟨t.pc, t.a, t.x, t.y, t.p.toByte, t.runState, watch.map t.mem.read⟩
  | .fault _ => none
  | .refused _ => none

/-- 95_test_vectors.md section 2, "Immediate: value is the operand byte". -/
theorem test_ldaImmediate_1 :
    view [] (step (start 0x8000 0x00 0x00 0x00 (Flags.ofByte 0x00)
      (Memory.writeBytes [] 0x8000 [0xA9, 0x37]))) =
    some ⟨0x8002, 0x37, 0x00, 0x00, 0x00, .running, []⟩ := by decide

/-- 95_test_vectors.md section 2, "ZeroPage". -/
theorem test_ldaZeroPage_1 :
    view [] (step (start 0x8000 0x00 0x00 0x00 (Flags.ofByte 0x00)
      ((Memory.writeBytes [] 0x8000 [0xA5, 0x10]).write 0x0010 0x99))) =
    some ⟨0x8002, 0x99, 0x00, 0x00, 0x80, .running, []⟩ := by decide

/-- 95_test_vectors.md section 2, "ZeroPageX wraps in page 0 (0xF0+0x20=0x10)". -/
theorem test_ldaZeroPageX_1 :
    view [] (step (start 0x8000 0x00 0x20 0x00 (Flags.ofByte 0x00)
      (((Memory.writeBytes [] 0x8000 [0xB5, 0xF0]).write 0x0010 0x11).write 0x0110 0x22))) =
    some ⟨0x8002, 0x11, 0x20, 0x00, 0x00, .running, []⟩ := by decide

/-- 95_test_vectors.md section 2, "ZeroPageY (STX) wraps (0xFF+0x02=0x01)". -/
theorem test_stxZeroPageY_1 :
    view [0x0001, 0x0101] (step (start 0x8000 0x00 0x07 0x02 (Flags.ofByte 0x00)
      (Memory.writeBytes [] 0x8000 [0x96, 0xFF]))) =
    some ⟨0x8002, 0x00, 0x07, 0x02, 0x00, .running, [0x07, 0x00]⟩ := by decide

/-- 95_test_vectors.md section 2, "Absolute little-endian". -/
theorem test_ldaAbsolute_1 :
    view [] (step (start 0x8000 0x00 0x00 0x00 (Flags.ofByte 0x00)
      ((Memory.writeBytes [] 0x8000 [0xAD, 0x34, 0x12]).write 0x1234 0x5A))) =
    some ⟨0x8003, 0x5A, 0x00, 0x00, 0x00, .running, []⟩ := by decide

/-- 95_test_vectors.md section 2, "AbsoluteX crosses a page". -/
theorem test_ldaAbsoluteX_1 :
    view [] (step (start 0x8000 0x00 0x20 0x00 (Flags.ofByte 0x00)
      ((Memory.writeBytes [] 0x8000 [0xBD, 0xF0, 0x12]).write 0x1310 0x66))) =
    some ⟨0x8003, 0x66, 0x20, 0x00, 0x00, .running, []⟩ := by decide

/-- 95_test_vectors.md section 2, "AbsoluteX wraps 16 bits (0xFFF0+0x20)". -/
theorem test_ldaAbsoluteX_2 :
    view [] (step (start 0x8000 0x00 0x20 0x00 (Flags.ofByte 0x00)
      ((Memory.writeBytes [] 0x8000 [0xBD, 0xF0, 0xFF]).write 0x0010 0x77))) =
    some ⟨0x8003, 0x77, 0x20, 0x00, 0x00, .running, []⟩ := by decide

/-- 95_test_vectors.md section 2, "AbsoluteY". -/
theorem test_ldaAbsoluteY_1 :
    view [] (step (start 0x8000 0x00 0x00 0xFF (Flags.ofByte 0x00)
      ((Memory.writeBytes [] 0x8000 [0xB9, 0x00, 0x30]).write 0x30FF 0x01))) =
    some ⟨0x8003, 0x01, 0x00, 0xFF, 0x00, .running, []⟩ := by decide

/-- 95_test_vectors.md section 2, "IndirectX: (0x20+X=0x24) -> ptr {M25,M24}". -/
theorem test_ldaIndirectX_1 :
    view [] (step (start 0x8000 0x00 0x04 0x00 (Flags.ofByte 0x00)
      ((((Memory.writeBytes [] 0x8000 [0xA1, 0x20]).write 0x0024 0x00).write 0x0025 0x40).write 0x4000 0xAB))) =
    some ⟨0x8002, 0xAB, 0x04, 0x00, 0x80, .running, []⟩ := by decide

/-- 95_test_vectors.md section 2, "IndirectX: index wraps, ptr at 0xFF takes hi from 0x00". -/
theorem test_ldaIndirectX_2 :
    view [] (step (start 0x8000 0x00 0x05 0x00 (Flags.ofByte 0x00)
      (((((Memory.writeBytes [] 0x8000 [0xA1, 0xFA]).write 0x00FF 0x40).write 0x0000 0x80).write 0x8040 0xCD).write 0x0100 0x90))) =
    some ⟨0x8002, 0xCD, 0x05, 0x00, 0x80, .running, []⟩ := by decide

/-- 95_test_vectors.md section 2, "IndirectY: {M11,M10}+Y carries". -/
theorem test_ldaIndirectY_1 :
    view [] (step (start 0x8000 0x00 0x00 0x10 (Flags.ofByte 0x00)
      ((((Memory.writeBytes [] 0x8000 [0xB1, 0x10]).write 0x0010 0xF8).write 0x0011 0x20).write 0x2108 0xEE))) =
    some ⟨0x8002, 0xEE, 0x00, 0x10, 0x80, .running, []⟩ := by decide

/-- 95_test_vectors.md section 2, "IndirectY: base+Y wraps 16 bits (0xFFF0+0x20)". -/
theorem test_ldaIndirectY_2 :
    view [] (step (start 0x8000 0x00 0x00 0x20 (Flags.ofByte 0x00)
      ((((Memory.writeBytes [] 0x8000 [0xB1, 0x40]).write 0x0040 0xF0).write 0x0041 0xFF).write 0x0010 0x5D))) =
    some ⟨0x8002, 0x5D, 0x00, 0x20, 0x00, .running, []⟩ := by decide

/-- 95_test_vectors.md section 2, "Operand bytes wrap past 0xFFFF (opcode at 0xFFFE)". -/
theorem test_ldaAbsolute_2 :
    view [] (step (start 0xFFFE 0x00 0x00 0x00 (Flags.ofByte 0x00)
      (((Memory.writeBytes [] 0xFFFE [0xAD, 0x00]).write 0x0000 0x02).write 0x0200 0x42))) =
    some ⟨0x0001, 0x42, 0x00, 0x00, 0x00, .running, []⟩ := by decide

/-- 95_test_vectors.md section 2, "LDA #$80 sets N". -/
theorem test_ldaImmediate_2 :
    view [] (step (start 0x8000 0x00 0x00 0x00 (Flags.ofByte 0x00)
      (Memory.writeBytes [] 0x8000 [0xA9, 0x80]))) =
    some ⟨0x8002, 0x80, 0x00, 0x00, 0x80, .running, []⟩ := by decide

/-- 95_test_vectors.md section 2, "STA zp writes A, no flags". -/
theorem test_staZeroPage_1 :
    view [0x0010] (step (start 0x8000 0x42 0x00 0x00 (Flags.ofByte 0xC3)
      (Memory.writeBytes [] 0x8000 [0x85, 0x10]))) =
    some ⟨0x8002, 0x42, 0x00, 0x00, 0xC3, .running, [0x42]⟩ := by decide

/-- 95_test_vectors.md section 2, "STA ($nn),Y". -/
theorem test_staIndirectY_1 :
    view [0x0203] (step (start 0x8000 0x9C 0x00 0x03 (Flags.ofByte 0x00)
      (((Memory.writeBytes [] 0x8000 [0x91, 0x10]).write 0x0010 0x00).write 0x0011 0x02))) =
    some ⟨0x8002, 0x9C, 0x00, 0x03, 0x00, .running, [0x9C]⟩ := by decide

/-- 95_test_vectors.md section 2, "STY abs". -/
theorem test_styAbsolute_1 :
    view [0x0200] (step (start 0x8000 0x00 0x00 0x09 (Flags.ofByte 0x00)
      (Memory.writeBytes [] 0x8000 [0x8C, 0x00, 0x02]))) =
    some ⟨0x8003, 0x00, 0x00, 0x09, 0x00, .running, [0x09]⟩ := by decide

/-- 95_test_vectors.md section 2, "STY zp,X wraps". -/
theorem test_styZeroPageX_1 :
    view [0x0000] (step (start 0x8000 0x00 0x01 0x5E (Flags.ofByte 0x00)
      (Memory.writeBytes [] 0x8000 [0x94, 0xFF]))) =
    some ⟨0x8002, 0x00, 0x01, 0x5E, 0x00, .running, [0x5E]⟩ := by decide

/-- 95_test_vectors.md section 2, "TAX of 0x80: N". -/
theorem test_tax_1 :
    view [] (step (start 0x8000 0x80 0x00 0x00 (Flags.ofByte 0x00)
      (Memory.writeBytes [] 0x8000 [0xAA]))) =
    some ⟨0x8001, 0x80, 0x80, 0x00, 0x80, .running, []⟩ := by decide

/-- 95_test_vectors.md section 2, "TAX of 0: Z". -/
theorem test_tax_2 :
    view [] (step (start 0x8000 0x00 0x33 0x00 (Flags.ofByte 0x00)
      (Memory.writeBytes [] 0x8000 [0xAA]))) =
    some ⟨0x8001, 0x00, 0x00, 0x00, 0x02, .running, []⟩ := by decide

/-- 95_test_vectors.md section 2, "TAY". -/
theorem test_tay_1 :
    view [] (step (start 0x8000 0x7F 0x00 0x00 (Flags.ofByte 0x41)
      (Memory.writeBytes [] 0x8000 [0xA8]))) =
    some ⟨0x8001, 0x7F, 0x00, 0x7F, 0x41, .running, []⟩ := by decide

/-- 95_test_vectors.md section 2, "STA into own operand byte: EA from the old bytes". -/
theorem test_staAbsolute_1 :
    view [0x8001, 0x8055] (step (start 0x8000 0x55 0x00 0x00 (Flags.ofByte 0x00)
      (Memory.writeBytes [] 0x8000 [0x8D, 0x01, 0x80]))) =
    some ⟨0x8003, 0x55, 0x00, 0x00, 0x00, .running, [0x55, 0x00]⟩ := by decide

/-- 95_test_vectors.md section 2, "INX 0xFF -> 0x00, Z, C unchanged". -/
theorem test_inx_1 :
    view [] (step (start 0x8000 0x00 0xFF 0x00 (Flags.ofByte 0x00)
      (Memory.writeBytes [] 0x8000 [0xE8]))) =
    some ⟨0x8001, 0x00, 0x00, 0x00, 0x02, .running, []⟩ := by decide

/-- 95_test_vectors.md section 2, "INX 0x7F -> 0x80, N, V unchanged". -/
theorem test_inx_2 :
    view [] (step (start 0x8000 0x00 0x7F 0x00 (Flags.ofByte 0x40)
      (Memory.writeBytes [] 0x8000 [0xE8]))) =
    some ⟨0x8001, 0x00, 0x80, 0x00, 0xC0, .running, []⟩ := by decide

/-- 95_test_vectors.md section 2, "INY 0xFF -> 0x00". -/
theorem test_iny_1 :
    view [] (step (start 0x8000 0x00 0x00 0xFF (Flags.ofByte 0x00)
      (Memory.writeBytes [] 0x8000 [0xC8]))) =
    some ⟨0x8001, 0x00, 0x00, 0x00, 0x02, .running, []⟩ := by decide

/-- 95_test_vectors.md section 2, "AND #0 -> Z". -/
theorem test_andImmediate_1 :
    view [] (step (start 0x8000 0xFF 0x00 0x00 (Flags.ofByte 0x00)
      (Memory.writeBytes [] 0x8000 [0x29, 0x00]))) =
    some ⟨0x8002, 0x00, 0x00, 0x00, 0x02, .running, []⟩ := by decide

/-- 95_test_vectors.md section 2, "AND #$80 -> N". -/
theorem test_andImmediate_2 :
    view [] (step (start 0x8000 0xC0 0x00 0x00 (Flags.ofByte 0x00)
      (Memory.writeBytes [] 0x8000 [0x29, 0x80]))) =
    some ⟨0x8002, 0x80, 0x00, 0x00, 0x80, .running, []⟩ := by decide

/-- 95_test_vectors.md section 2, "ASL A 0x80 -> 0, C, Z". -/
theorem test_aslAccumulator_1 :
    view [] (step (start 0x8000 0x80 0x00 0x00 (Flags.ofByte 0x00)
      (Memory.writeBytes [] 0x8000 [0x0A]))) =
    some ⟨0x8001, 0x00, 0x00, 0x00, 0x03, .running, []⟩ := by decide

/-- 95_test_vectors.md section 2, "ASL A 0xFF -> 0xFE, C, N". -/
theorem test_aslAccumulator_2 :
    view [] (step (start 0x8000 0xFF 0x00 0x00 (Flags.ofByte 0x00)
      (Memory.writeBytes [] 0x8000 [0x0A]))) =
    some ⟨0x8001, 0xFE, 0x00, 0x00, 0x81, .running, []⟩ := by decide

/-- 95_test_vectors.md section 2, "ASL zp 0x55 -> 0xAA". -/
theorem test_aslZeroPage_1 :
    view [0x0010] (step (start 0x8000 0x00 0x00 0x00 (Flags.ofByte 0x00)
      ((Memory.writeBytes [] 0x8000 [0x06, 0x10]).write 0x0010 0x55))) =
    some ⟨0x8002, 0x00, 0x00, 0x00, 0x80, .running, [0xAA]⟩ := by decide

/-- 95_test_vectors.md section 2, "ASL abs,X". -/
theorem test_aslAbsoluteX_1 :
    view [0x0201] (step (start 0x8000 0x11 0x01 0x00 (Flags.ofByte 0x00)
      ((Memory.writeBytes [] 0x8000 [0x1E, 0x00, 0x02]).write 0x0201 0xC0))) =
    some ⟨0x8003, 0x11, 0x01, 0x00, 0x81, .running, [0x80]⟩ := by decide

/-- 95_test_vectors.md section 2, "ADC #$FF A=80 C=1". -/
theorem test_adcImmediate_1 :
    view [] (step (start 0x8000 0x80 0x00 0x00 (Flags.ofByte 0x01)
      (Memory.writeBytes [] 0x8000 [0x69, 0xFF]))) =
    some ⟨0x8002, 0x80, 0x00, 0x00, 0x81, .running, []⟩ := by decide

/-- 95_test_vectors.md section 2, "ADC with D=1 is binary (0x09+0x09=0x12, not BCD 0x18)". -/
theorem test_adcImmediate_2 :
    view [] (step (start 0x8000 0x09 0x00 0x00 (Flags.ofByte 0x08)
      (Memory.writeBytes [] 0x8000 [0x69, 0x09]))) =
    some ⟨0x8002, 0x12, 0x00, 0x00, 0x08, .running, []⟩ := by decide

/-- 95_test_vectors.md section 2, "BCC taken +5". -/
theorem test_bcc_1 :
    view [] (step (start 0x8010 0x00 0x00 0x00 (Flags.ofByte 0x00)
      (Memory.writeBytes [] 0x8010 [0x90, 0x05]))) =
    some ⟨0x8017, 0x00, 0x00, 0x00, 0x00, .running, []⟩ := by decide

/-- 95_test_vectors.md section 2, "BCC not taken". -/
theorem test_bcc_2 :
    view [] (step (start 0x8010 0x00 0x00 0x00 (Flags.ofByte 0x01)
      (Memory.writeBytes [] 0x8010 [0x90, 0x05]))) =
    some ⟨0x8012, 0x00, 0x00, 0x00, 0x01, .running, []⟩ := by decide

/-- 95_test_vectors.md section 2, "BCS not taken". -/
theorem test_bcs_1 :
    view [] (step (start 0x8010 0x00 0x00 0x00 (Flags.ofByte 0x00)
      (Memory.writeBytes [] 0x8010 [0xB0, 0x05]))) =
    some ⟨0x8012, 0x00, 0x00, 0x00, 0x00, .running, []⟩ := by decide

/-- 95_test_vectors.md section 2, "BNE not taken". -/
theorem test_bne_1 :
    view [] (step (start 0x8010 0x00 0x00 0x00 (Flags.ofByte 0x02)
      (Memory.writeBytes [] 0x8010 [0xD0, 0x05]))) =
    some ⟨0x8012, 0x00, 0x00, 0x00, 0x02, .running, []⟩ := by decide

/-- 95_test_vectors.md section 2, "BEQ not taken". -/
theorem test_beq_1 :
    view [] (step (start 0x8010 0x00 0x00 0x00 (Flags.ofByte 0x00)
      (Memory.writeBytes [] 0x8010 [0xF0, 0x05]))) =
    some ⟨0x8012, 0x00, 0x00, 0x00, 0x00, .running, []⟩ := by decide

/-- 95_test_vectors.md section 2, "BPL taken +5". -/
theorem test_bpl_1 :
    view [] (step (start 0x8010 0x00 0x00 0x00 (Flags.ofByte 0x00)
      (Memory.writeBytes [] 0x8010 [0x10, 0x05]))) =
    some ⟨0x8017, 0x00, 0x00, 0x00, 0x00, .running, []⟩ := by decide

/-- 95_test_vectors.md section 2, "BPL not taken". -/
theorem test_bpl_2 :
    view [] (step (start 0x8010 0x00 0x00 0x00 (Flags.ofByte 0x80)
      (Memory.writeBytes [] 0x8010 [0x10, 0x05]))) =
    some ⟨0x8012, 0x00, 0x00, 0x00, 0x80, .running, []⟩ := by decide

/-- 95_test_vectors.md section 2, "BMI taken +5". -/
theorem test_bmi_1 :
    view [] (step (start 0x8010 0x00 0x00 0x00 (Flags.ofByte 0x80)
      (Memory.writeBytes [] 0x8010 [0x30, 0x05]))) =
    some ⟨0x8017, 0x00, 0x00, 0x00, 0x80, .running, []⟩ := by decide

/-- 95_test_vectors.md section 2, "BMI not taken". -/
theorem test_bmi_2 :
    view [] (step (start 0x8010 0x00 0x00 0x00 (Flags.ofByte 0x00)
      (Memory.writeBytes [] 0x8010 [0x30, 0x05]))) =
    some ⟨0x8012, 0x00, 0x00, 0x00, 0x00, .running, []⟩ := by decide

/-- 95_test_vectors.md section 2, "BVC taken +5". -/
theorem test_bvc_1 :
    view [] (step (start 0x8010 0x00 0x00 0x00 (Flags.ofByte 0x00)
      (Memory.writeBytes [] 0x8010 [0x50, 0x05]))) =
    some ⟨0x8017, 0x00, 0x00, 0x00, 0x00, .running, []⟩ := by decide

/-- 95_test_vectors.md section 2, "BVC not taken". -/
theorem test_bvc_2 :
    view [] (step (start 0x8010 0x00 0x00 0x00 (Flags.ofByte 0x40)
      (Memory.writeBytes [] 0x8010 [0x50, 0x05]))) =
    some ⟨0x8012, 0x00, 0x00, 0x00, 0x40, .running, []⟩ := by decide

/-- 95_test_vectors.md section 2, "BVS not taken". -/
theorem test_bvs_1 :
    view [] (step (start 0x8010 0x00 0x00 0x00 (Flags.ofByte 0x00)
      (Memory.writeBytes [] 0x8010 [0x70, 0x05]))) =
    some ⟨0x8012, 0x00, 0x00, 0x00, 0x00, .running, []⟩ := by decide

/-- 95_test_vectors.md section 2, "BCS taken -5 (0xFB), §8". -/
theorem test_bcs_2 :
    view [] (step (start 0x8010 0x00 0x00 0x00 (Flags.ofByte 0x01)
      (Memory.writeBytes [] 0x8010 [0xB0, 0xFB]))) =
    some ⟨0x800D, 0x00, 0x00, 0x00, 0x01, .running, []⟩ := by decide

/-- 95_test_vectors.md section 2, "BNE taken -128 wraps below 0". -/
theorem test_bne_2 :
    view [] (step (start 0x0000 0x00 0x00 0x00 (Flags.ofByte 0x00)
      (Memory.writeBytes [] 0x0000 [0xD0, 0x80]))) =
    some ⟨0xFF82, 0x00, 0x00, 0x00, 0x00, .running, []⟩ := by decide

/-- 95_test_vectors.md section 2, "BEQ taken +127 wraps above 0xFFFF". -/
theorem test_beq_2 :
    view [] (step (start 0xFFF0 0x00 0x00 0x00 (Flags.ofByte 0x02)
      (Memory.writeBytes [] 0xFFF0 [0xF0, 0x7F]))) =
    some ⟨0x0071, 0x00, 0x00, 0x00, 0x02, .running, []⟩ := by decide

/-- 95_test_vectors.md section 2, "BVS 0xFE: branch to itself". -/
theorem test_bvs_2 :
    view [] (step (start 0x8000 0x00 0x00 0x00 (Flags.ofByte 0x40)
      (Memory.writeBytes [] 0x8000 [0x70, 0xFE]))) =
    some ⟨0x8000, 0x00, 0x00, 0x00, 0x40, .running, []⟩ := by decide

/-- 95_test_vectors.md section 2, "BRK halts, PC=pc0+1, B not set". -/
theorem test_brk_1 :
    view [] (step (start 0x8006 0x12 0x00 0x00 (Flags.ofByte 0x01)
      (Memory.writeBytes [] 0x8006 [0x00]))) =
    some ⟨0x8007, 0x12, 0x00, 0x00, 0x01, .halted, []⟩ := by decide

/-- 95_test_vectors.md section 2, "Illegal 0x02". -/
theorem test_illegal02_1 :
    view [] (step (start 0x8000 0x12 0x00 0x00 (Flags.ofByte 0x00)
      (Memory.writeBytes [] 0x8000 [0x02]))) =
    some ⟨0x8001, 0x12, 0x00, 0x00, 0x00, .faulted .invalidInstruction, []⟩ := by decide

/-- 95_test_vectors.md section 2, "Illegal 0xFF". -/
theorem test_illegalFF_1 :
    view [] (step (start 0x8000 0x00 0x00 0x00 (Flags.ofByte 0x00)
      (Memory.writeBytes [] 0x8000 [0xFF]))) =
    some ⟨0x8001, 0x00, 0x00, 0x00, 0x00, .faulted .invalidInstruction, []⟩ := by decide

/-- 95_test_vectors.md section 2, "Unimplemented 0xEA (NOP)". -/
theorem test_nop_1 :
    view [] (step (start 0x8000 0x00 0x00 0x00 (Flags.ofByte 0x00)
      (Memory.writeBytes [] 0x8000 [0xEA]))) =
    some ⟨0x8001, 0x00, 0x00, 0x00, 0x00, .faulted .unimplemented, []⟩ := by decide

/-- 95_test_vectors.md section 2, "Unimplemented 0x4C (JMP abs) reads no operand". -/
theorem test_jmpAbsolute_1 :
    view [] (step (start 0x8000 0x00 0x00 0x00 (Flags.ofByte 0x00)
      (Memory.writeBytes [] 0x8000 [0x4C, 0x00, 0x90]))) =
    some ⟨0x8001, 0x00, 0x00, 0x00, 0x00, .faulted .unimplemented, []⟩ := by decide

/-- 95_test_vectors.md section 2, "Illegal at 0xFFFF: PC wraps to 0x0000". -/
theorem test_illegal02_2 :
    view [] (step (start 0xFFFF 0x00 0x00 0x00 (Flags.ofByte 0x00)
      (Memory.writeBytes [] 0xFFFF [0x02]))) =
    some ⟨0x0000, 0x00, 0x00, 0x00, 0x00, .faulted .invalidInstruction, []⟩ := by decide

/-- 42_alu.md R183, a = 0x7F, m = 0x01, cin = 0. -/
theorem test_adcZeroPage_1 :
    view [] (step (start 0x8000 0x7F 0x00 0x00 (Flags.ofByte 0x00)
      ((Memory.writeBytes [] 0x8000 [0x65, 0x10]).write 0x0010 0x01))) =
    some ⟨0x8002, 0x80, 0x00, 0x00, 0xC0, .running, []⟩ := by decide

/-- 42_alu.md R183, a = 0xD0, m = 0x90, cin = 0. -/
theorem test_adcAbsolute_1 :
    view [] (step (start 0x8000 0xD0 0x00 0x00 (Flags.ofByte 0x00)
      ((Memory.writeBytes [] 0x8000 [0x6D, 0x00, 0x40]).write 0x4000 0x90))) =
    some ⟨0x8003, 0x60, 0x00, 0x00, 0x41, .running, []⟩ := by decide

/-- 42_alu.md R183, a = 0xFF, m = 0xFF, cin = 1. -/
theorem test_adcAbsoluteX_1 :
    view [] (step (start 0x8000 0xFF 0x00 0x00 (Flags.ofByte 0x01)
      ((Memory.writeBytes [] 0x8000 [0x7D, 0x00, 0x40]).write 0x4000 0xFF))) =
    some ⟨0x8003, 0xFF, 0x00, 0x00, 0x81, .running, []⟩ := by decide

/-- 42_alu.md R183, a = 0x80, m = 0x80, cin = 0. -/
theorem test_adcIndirectY_1 :
    view [] (step (start 0x8000 0x80 0x00 0x00 (Flags.ofByte 0x00)
      ((((Memory.writeBytes [] 0x8000 [0x71, 0x20]).write 0x0020 0x00).write 0x0021 0x40).write 0x4000 0x80))) =
    some ⟨0x8002, 0x00, 0x00, 0x00, 0x43, .running, []⟩ := by decide

/-! ### Host port -/

/-- 95_test_vectors.md, "construction, no load". -/
theorem test_construction : view [] (step State.reset) = some ⟨0x0001, 0, 0, 0, 0x00, .halted, []⟩ := by decide
/-- 95_test_vectors.md, "reset with vector at the top". -/
theorem test_reset_vector :
    (State.hostReset { start 0 1 2 3 (Flags.ofByte 0xFF) [(0xFFFC, 0x34), (0xFFFD, 0x12)] with
      runState := .faulted .invalidInstruction }) =
    start 0x1234 0 0 0 Flags.clear [(0xFFFC, 0x34), (0xFFFD, 0x12)] := by decide
/-- 95_test_vectors.md, "step in Halted". -/
theorem test_step_halted :
    view [] (step { start 0x8007 0x12 0 0 Flags.clear [] with runState := .halted }) =
    some ⟨0x8007, 0x12, 0, 0, 0x00, .halted, []⟩ := by decide
/-- 95_test_vectors.md, "bulkCopy out of bounds". -/
theorem test_bulkCopy_out_of_bounds : view [] (bulkCopy 0xFFFF [0x01, 0x02] State.reset) = none := by decide
/-- 95_test_vectors.md, "bulkCopy to the last byte". -/
theorem test_bulkCopy_last_byte :
    view [0xFFFF] (bulkCopy 0xFFFF [0x01] State.reset) = some ⟨0, 0, 0, 0, 0x00, .running, [0x01]⟩ := by decide
/-- 95_test_vectors.md section 3, the start state of P1. -/
theorem test_boot : view [0x8000, 0x8006, 0xFFFC, 0xFFFD] (boot 0x8000 [0xA9, 0x01, 0x69, 0xFF, 0x69, 0x01, 0x00]) =
    some ⟨0x8000, 0, 0, 0, 0x00, .running, [0xA9, 0x00, 0x00, 0x80]⟩ := by decide
/-- R254: an image that covers the vector sets it by its own bytes. -/
theorem test_bootOwnVector : view [] (bootOwnVector 0xFFFC [0x00, 0x90]) = some ⟨0x9000, 0, 0, 0, 0x00, .running, []⟩ := by
  decide
/-- R254: the vector written before the copy, beside the image and under it. -/
theorem test_bootVectorFirst : view [0xFFFB] (bootVectorFirst 0xFFFB [0x07]) = some ⟨0xFFFB, 0, 0, 0, 0x00, .running, [0x07]⟩ ∧
    view [] (bootVectorFirst 0xFFFC [0x00, 0x90]) = some ⟨0x9000, 0, 0, 0, 0x00, .running, []⟩ := by decide
/-- R254, A8: an image over one byte of the vector, in either order. -/
theorem test_boot_half_covered :
    view [0xFFFC, 0xFFFD] (bootVectorFirst 0xFFFC [0x07]) = some ⟨0xFF07, 0, 0, 0, 0x00, .running, [0x07, 0xFF]⟩ ∧
    view [0xFFFC, 0xFFFD] (boot 0xFFFC [0x07]) = some ⟨0xFFFC, 0, 0, 0, 0x00, .running, [0xFC, 0xFF]⟩ := by decide
theorem test_fetchWord_runs : view [] (step (State.reset.withFetchWord 16 0x05A9)) =
    some ⟨0x0002, 0x05, 0, 0, 0x00, .running, []⟩ := by decide

/-! ### Bus and assembler -/

/-- R114: opcode, operand, pointer low, pointer high, data. -/
theorem test_bus_indirectX :
    stepAccesses (start 0x8000 0 0x05 0 Flags.clear (Memory.writeBytes [] 0x8000 [0xA1, 0xFA])) =
    [.read 0x8000, .read 0x8001, .read 0x00FF, .read 0x0000, .read 0x0000] := by decide
/-- R90. -/
theorem test_assembly :
    assemblyText 0x8000 (.ldaIndirectY 0x1A) = "LDA ($1A),Y" ∧ assemblyText 0x8010 (.bcs (-5)) = "BCS $800D" ∧
    assemblyText 0 (.staAbsolute 0x0010) = "STA $0010" ∧ branchDisplacement 0x8008 0x8005 = some (-5) ∧
    branchDisplacement 0x8000 0x8082 = none := by decide

/-! ### States and operands that meet the hypotheses of the statements -/

/-- A state with the bytes given at 0x8000, one zero-page pointer and memory in canonical form. -/
def sample (bytes : List Byte) : State :=
  start 0x8000 0x9C 0x01 0x02 (Flags.ofByte 0x41) ((Memory.writeBytes [] 0x8000 bytes).write 0x0011 0x02)

/-- DecodeOfEncodeIsIdentity, at both bounds of the one operand that is checked. -/
theorem witness_wellFormed : (Instr.bcc (-128)).wellFormed = true ∧ (Instr.bcc 127).wellFormed = true ∧
    (Instr.ldaAbsolute 0xFFFF).wellFormed = true := by decide
/-- EncodeOfDecodeIsIdentity. -/
theorem witness_decoded : decode [0x02, 0xFF] = .ok (.illegal02, [0xFF]) := by rfl
/-- StepExecutesTheDecodedInstruction, its last byte wrapping to 0x0000. -/
theorem witness_fetched : ∃ s : State, s.runState = .running ∧ s.pc = 0xFFFF ∧
    decode [s.mem.read s.pc, s.mem.read (s.pc + 1), s.mem.read (s.pc + 2)] = .ok (.ldaImmediate 0x37, [0]) :=
  ⟨start 0xFFFF 0 0 0 Flags.clear [(0, 0x37), (0xFFFF, 0xA9)], rfl, rfl, by rfl⟩
/-- TerminalStatesAbsorbUntilReset, each of the three terminal states. -/
theorem witness_terminal : ∃ s t u : State, s.runState = .halted ∧ t.runState = .faulted .unimplemented ∧
    u.runState = .faulted .invalidInstruction :=
  ⟨(sample []).halt, (sample []).raiseFault .unimplemented, (sample []).raiseFault .invalidInstruction, rfl, rfl, rfl⟩
/-- OpcodeByteDecidesTheRunState and NextPcMultiplexer, one step for each way of ending. -/
theorem witness_endings :
    (∃ t, step (sample [0xA9]) = .next t ∧ t.runState = .running) ∧ (∃ t, step (sample [0x00]) = .next t ∧ t.runState = .halted) ∧
    (∃ t, step (sample [0xEA]) = .next t ∧ t.runState = .faulted .unimplemented) ∧
    (∃ t, step (sample [0x02]) = .next t ∧ t.runState = .faulted .invalidInstruction) :=
  ⟨⟨_, rfl, rfl⟩, ⟨_, rfl, rfl⟩, ⟨_, rfl, rfl⟩, ⟨_, rfl, rfl⟩⟩
/-- NextPcMultiplexer: a branch taken (C is set in the sample) and one not taken. -/
theorem witness_branches : (fetch (sample [0xB0, 0x05])).operation = .branch .cs 5 ∧
    conditionHolds (sample []).p .cs = true ∧ conditionHolds (sample []).p .cc = false := by decide
/-- AdmittedInstructionsRaiseNothing. -/
theorem witness_admitted : (Instr.adcIndirectY 0x10).decodeClass = .admitted .adc .indirectY 1 ∧
    (sample []).runState = .running := by decide
/-- LdaLoadsTheAccumulator, AndMasksTheAccumulator, AdcAddsWithCarry: an operand of each kind. -/
theorem witness_sources : (Instr.ldaImmediate 7).operation = .lda (.immediate 7) ∧
    (Instr.andAbsoluteY 0xFFFF).operation = .and (.memory (.absoluteY 0xFFFF)) ∧
    (Instr.adcIndirectX 0xFF).operation = .adc (.memory (.indirectX 0xFF)) := by decide
/-- AslShiftsAMemoryByte and StoresWriteOneByteAtTheEffectiveAddress: one for each of the three registers. -/
theorem witness_stores : (sample []).mem.wf ∧ (Instr.aslAbsoluteX 0xFFFF).operation = .asl (.absoluteX 0xFFFF) ∧
    (Instr.staIndirectY 0x10).operation = .sta (.indirectY 0x10) ∧
    (Instr.stxZeroPageY 0xFF).operation = .stx (.zeroPageY 0xFF) ∧
    (Instr.styAbsolute 0xFFFF).operation = .sty (.absolute 0xFFFF) := by decide
/-- BranchesMoveThePcOnTheirFlag, at both bounds. -/
theorem witness_displacements : ((-128 : Int) ≤ -128 ∧ (-128 : Int) ≤ 127) ∧ ((-128 : Int) ≤ 127 ∧ (127 : Int) ≤ 127) := by
  decide
/-- UnimplementedOpcodesFault and IllegalOpcodesFault. -/
theorem witness_faults : Instr.jmpIndirect.decodeClass = .unimplemented .jmp ∧ Instr.illegalFF.decodeClass = .illegal := by
  decide
/-- InstructionOperandsAgreeWithTheResolver: a mode with an address and one without. -/
theorem witness_modes : (fetch (sample [0xB1, 0x10])).decodeClass.mode = some .indirectY ∧
    (fetch (sample [0x0A])).decodeClass.mode = some .accumulator := by decide
/-- OperandReadsTheByteAtItsAddress: each of the three. -/
theorem witness_reads : (fetch (sample [0xA9, 0x10])).operation = .lda (.immediate 0x10) ∧
    (fetch (sample [0x25, 0x10])).operation = .and (.memory (.zeroPage 0x10)) ∧
    (fetch (sample [0x71, 0x10])).operation = .adc (.memory (.indirectY 0x10)) := by decide
/-- ZeroNegativeLaw: a register and a memory destination. -/
theorem witness_flagged : ∃ t u, (sample []).mem.wf ∧
    exec .tax (sample []) = .next t ∧ Claims.writtenByte (Instr.operation .tax) (sample []) t = some 0x9C ∧
    exec (.aslZeroPage 0x11) (sample []) = .next u ∧
    Claims.writtenByte (Instr.operation (.aslZeroPage 0x11)) (sample []) u = some 0x04 :=
  ⟨_, _, by decide, rfl, by rfl, rfl, by decide⟩
/-- FlagsChangeOnlyByTheirWriters, RegistersChangeOnlyByTheirWriters and MemoryChangesOnlyAtTheStoreAddress: an instruction
that writes none of them, and an address beside a store's. -/
theorem witness_frames : (∃ t, exec (.bcc 5) (sample []) = .next t) ∧
    Claims.writesC (Instr.operation (.bcc 5)) = false ∧ Claims.writesV (Instr.operation (.bcc 5)) = false ∧
    Claims.writesZN (Instr.operation (.bcc 5)) = false ∧ Claims.writesA (Instr.operation (.bcc 5)) = false ∧
    Instr.operation (.bcc 5) ≠ .tax ∧ Instr.operation (.bcc 5) ≠ .inx ∧ Instr.operation (.bcc 5) ≠ .tay ∧
    Instr.operation (.bcc 5) ≠ .iny ∧
    Claims.endsTheRun (Instr.operation (.bcc 5)) = false ∧
    Claims.storeAddress (Instr.operation (.bcc 5)) (sample []) = none ∧
    (∃ t, exec (.staZeroPage 0xFF) (sample []) = .next t) ∧
    Claims.storeAddress (Instr.operation (.staZeroPage 0xFF)) (sample []) ≠ some 0x0100 :=
  ⟨⟨_, rfl⟩, by decide, by decide, by decide, by decide, by decide, by decide, by decide, by decide, by decide, by decide,
    ⟨_, rfl⟩, by decide⟩
/-- UnusedStateIsNeverRead: two states that differ in all five. -/
theorem witness_agree : ∃ s s' t t' : State, Claims.agreeWhereRead s s' ∧ s.sp ≠ s'.sp ∧ s.p.i ≠ s'.p.i ∧ s.p.d ≠ s'.p.d ∧
    s.p.b ≠ s'.p.b ∧ s.p.u ≠ s'.p.u ∧ step s = .next t ∧ step s' = .next t' :=
  ⟨sample [0x69, 0x09], { sample [0x69, 0x09] with sp := 0xFD, p := Flags.ofByte 0x7D }, _, _,
    ⟨rfl, rfl, rfl, rfl, rfl, rfl, rfl, rfl, rfl, rfl⟩, by decide, by decide, by decide, by decide, by decide, rfl, rfl⟩
/-- ByteWriteSetsOneCell and WordReadAfterWordWrite: memory in canonical form, and the addresses beside the word at the top. -/
theorem witness_memory : Memory.wf [(0x0000, 0x80), (0xFFFF, 0x40)] ∧ (0x0001 : Address) ≠ 0xFFFF ∧
    (0x0001 : Address) ≠ 0xFFFF + 1 := by decide
/-- MemoryIsDeterminedByItsReads. -/
theorem witness_same_reads : Memory.wf [(0x0011, 0x02)] ∧
    (∀ a : Address, Memory.read [(0x0011, 0x02)] a = Memory.read (Memory.write [] 0x0011 0x02) a) ∧
    Memory.wf (Memory.write [] 0x0011 0x02) :=
  ⟨by decide, fun _ => rfl, by decide⟩
/-- BulkCopyLoadsOrRefuses and BootFollowsTheImagesOwnVector: on each side of the bound. -/
theorem witness_bulkCopy : (sample []).mem.wf ∧ 65536 < (0xFFFF : Address).toNat + [(1 : Byte), 2].length ∧
    (0xFFFF : Address).toNat + [(1 : Byte)].length ≤ 65536 ∧ (0x8000 : Address).toNat + ([] : List Byte).length ≤ 65536 := by
  decide
/-- BootStartsTheImage and BootOrderIsFreeBesideTheVector, an image beside the vector: one that ends at 0xFFFB, one that starts at 0xFFFE, and the
empty one. -/
theorem witness_boot_beside : (0xFFFA : Address).toNat + [(1 : Byte), 2].length ≤ 65536 ∧
    ¬ Claims.imageCovers 0xFFFA [1, 2] 0xFFFC ∧ ¬ Claims.imageCovers 0xFFFA [1, 2] 0xFFFD ∧
    (0xFFFE : Address).toNat + [(1 : Byte), 2].length ≤ 65536 ∧
    ¬ Claims.imageCovers 0xFFFE [1, 2] 0xFFFC ∧ ¬ Claims.imageCovers 0xFFFE [1, 2] 0xFFFD ∧
    (0xFFFC : Address).toNat + ([] : List Byte).length ≤ 65536 ∧
    ¬ Claims.imageCovers 0xFFFC [] 0xFFFC ∧ ¬ Claims.imageCovers 0xFFFC [] 0xFFFD := by decide
/-- BootOrderIsFreeBesideTheVector and BootFollowsTheImagesOwnVector: the shortest image over the vector, and one that runs on
to the top. -/
theorem witness_boot_over : (0xFFFC : Address).toNat + [(0 : Byte), 0x90].length ≤ 65536 ∧
    Claims.imageCovers 0xFFFC [0, 0x90] 0xFFFC ∧ Claims.imageCovers 0xFFFC [0, 0x90] 0xFFFD ∧
    (0xFFFB : Address).toNat + [(1 : Byte), 0, 0x90, 2, 3].length ≤ 65536 ∧
    Claims.imageCovers 0xFFFB [1, 0, 0x90, 2, 3] 0xFFFC ∧ Claims.imageCovers 0xFFFB [1, 0, 0x90, 2, 3] 0xFFFD := by decide
/-- BootVectorUnderEitherOrder: an image over the low byte of the vector alone, and one over the high byte alone. -/
theorem witness_boot_half : (0xFFFC : Address).toNat + [(7 : Byte)].length ≤ 65536 ∧
    Claims.imageCovers 0xFFFC [7] 0xFFFC ∧ ¬ Claims.imageCovers 0xFFFC [7] 0xFFFD ∧
    (0xFFFD : Address).toNat + [(7 : Byte)].length ≤ 65536 ∧
    ¬ Claims.imageCovers 0xFFFD [7] 0xFFFC ∧ Claims.imageCovers 0xFFFD [7] 0xFFFD := by decide
/-- NewCoreHaltsAtAddressZero and ResetMeetsTheInvariant. -/
theorem witness_zeroed : ∃ s : State, s.mem = [] ∧ s.mem.wf ∧ s ≠ State.reset :=
  ⟨start 0x1234 1 2 3 (Flags.ofByte 0xFF) [], rfl, by decide, by decide⟩
/-- StepKeepsTheInvariant: a running state that stores, and a terminal one. -/
theorem witness_invariant : ∃ s u t v : State, s.Inv ∧ step s = .next t ∧ s.mem ≠ t.mem ∧ u.Inv ∧ step u = .next v ∧
    u.runState = .halted :=
  ⟨sample [0x85, 0x40], (sample []).halt, _, _, ⟨by decide, by decide, by decide, by decide, by decide, by decide⟩, rfl,
    by decide, ⟨by decide, by decide, by decide, by decide, by decide, by decide⟩, rfl, rfl⟩
/-- BusWritesMakeTheNextMemory and StoppingStepsReadTheOpcodeOnly: a step that stays Running, one that halts, one that is not
made. -/
theorem witness_bus : ∃ t u v : State, step (sample [0x1E, 0x00, 0x40]) = .next t ∧ t.runState = .running ∧
    step (sample [0x00]) = .next u ∧ u.runState ≠ .running ∧ step (sample []).halt = .next v ∧
    (sample []).halt.runState ≠ .running :=
  ⟨_, _, _, rfl, rfl, rfl, by decide, rfl, by decide⟩
/-- StoreIsSeenByTheNextFetch: STA over the next opcode, and STX, STY and ASL over the operand byte after it. -/
theorem witness_next_fetch : (∃ t, (sample [0x8D, 0x03, 0x80]).runState = .running ∧ (sample [0x8D, 0x03, 0x80]).mem.wf ∧
      Claims.storeAddress (fetch (sample [0x8D, 0x03, 0x80])).operation (sample [0x8D, 0x03, 0x80]) = some 0x8003 ∧
      Claims.storedByte (fetch (sample [0x8D, 0x03, 0x80])).operation (sample [0x8D, 0x03, 0x80]) =
        some (sample [0x8D, 0x03, 0x80]).a ∧
      step (sample [0x8D, 0x03, 0x80]) = .next t ∧ t.pc = 0x8003) ∧
    (∃ t, (sample [0x8E, 0x04, 0x80, 0xA9]).mem.wf ∧
      Claims.storeAddress (fetch (sample [0x8E, 0x04, 0x80, 0xA9])).operation (sample [0x8E, 0x04, 0x80, 0xA9]) = some 0x8004 ∧
      step (sample [0x8E, 0x04, 0x80, 0xA9]) = .next t) ∧
    (∃ t, (sample [0x8C, 0x04, 0x80, 0xA9]).mem.wf ∧
      Claims.storeAddress (fetch (sample [0x8C, 0x04, 0x80, 0xA9])).operation (sample [0x8C, 0x04, 0x80, 0xA9]) = some 0x8004 ∧
      step (sample [0x8C, 0x04, 0x80, 0xA9]) = .next t) ∧
    ∃ t, (sample [0x0E, 0x04, 0x80, 0xA9, 0x41]).mem.wf ∧
      Claims.storedByte (fetch (sample [0x0E, 0x04, 0x80, 0xA9, 0x41])).operation (sample [0x0E, 0x04, 0x80, 0xA9, 0x41]) =
        some 0x82 ∧
      step (sample [0x0E, 0x04, 0x80, 0xA9, 0x41]) = .next t :=
  ⟨⟨_, rfl, by decide, by decide, by decide, rfl, rfl⟩, ⟨_, by decide, by decide, rfl⟩, ⟨_, by decide, by decide, rfl⟩,
    ⟨_, by decide, by decide, rfl⟩⟩
/-- MoreFuelAfterTheEndChangesNothing and StoppedRunShowsItsOpcode: a run of one step for each way of stopping. -/
theorem witness_stopped : (∃ t, run 1 (sample [0x00]) = .next t ∧ t.runState = .halted) ∧
    (∃ t, run 1 (sample [0x4C]) = .next t ∧ t.runState = .faulted .unimplemented) ∧
    (∃ t, run 1 (sample [0xFF]) = .next t ∧ t.runState = .faulted .invalidInstruction) :=
  ⟨⟨_, rfl, rfl⟩, ⟨_, rfl, rfl⟩, ⟨_, rfl, rfl⟩⟩
/-- StepKeepsTheStoppingByteShown: a running state whose step stops it, and a stopped state. -/
theorem witness_stopping_byte : (∃ t, Claims.showsItsOpcode (sample [0x4C]) ∧ step (sample [0x4C]) = .next t ∧
      t.runState = .faulted .unimplemented) ∧
    ∃ t, Claims.showsItsOpcode (sample [0x00]).halt ∧ step (sample [0x00]).halt = .next t ∧ t.runState = .halted :=
  ⟨⟨_, ⟨by decide, by decide, by decide⟩, rfl, rfl⟩, ⟨_, ⟨by decide, by decide, by decide⟩, rfl, rfl⟩⟩
/-- RestrictedAdmissionFaultsUnimplemented: an admitted byte left out, one kept, a byte never admitted, a terminal state. -/
theorem witness_restricted : (sample [0xA9]).runState = .running ∧ isAdmitted (fetch (sample [0xA9])) = true ∧
    (fun b : Byte => decide (b ≠ 0xA9)) ((sample [0xA9]).mem.read 0x8000) = false ∧
    (fun b : Byte => decide (b ≠ 0xA9)) ((sample [0xAA]).mem.read 0x8000) = true ∧
    isAdmitted (fetch (sample [0xEA])) = false ∧ (sample []).halt.runState ≠ .running := by decide
/-- AssembledBranchReachesItsTarget: the reach's two ends, from a PC near the top. -/
theorem witness_assembled : branchDisplacement 0xFFF0 0x0071 = some 127 ∧ branchDisplacement 0x0000 0xFF82 = some (-128) := by
  decide

end Sys2Proof.Tests
end

section
/-! PROOF. The restricted core (00_scope.md R9, 92_eei_decisions.md D3). -/

namespace Sys2Proof.Machine

/-- A restricted core that is Running steps as the whole core does, but for the admitted opcodes left out of its set. -/
theorem stepRestricted_running {admitted : Byte → Bool} {s : State} (h : s.runState = .running) :
    stepRestricted admitted s =
      if isAdmitted (fetch s) && !admitted (s.mem.read s.pc) then .next (s.raiseFault .unimplemented) else step s := by
  simp [stepRestricted, h, step_running h]

/-- A restricted core in a terminal state does not move (R116). -/
theorem stepRestricted_terminal {admitted : Byte → Bool} {s : State} (h : s.runState ≠ .running) :
    stepRestricted admitted s = .next s := by
  cases hr : s.runState <;> simp_all [stepRestricted]

/-- On an admitted opcode left out of the set, a Running restricted core raises Unimplemented. -/
theorem stepRestricted_removed {admitted : Byte → Bool} {s : State} (hrun : s.runState = .running)
    (hadm : isAdmitted (fetch s) = true) (hout : admitted (s.mem.read s.pc) = false) :
    stepRestricted admitted s = .next (s.raiseFault .unimplemented) := by
  simp [stepRestricted_running hrun, hadm, hout]

/-- On every other byte, and in every terminal state, a restricted core steps as the whole core does. -/
theorem stepRestricted_kept {admitted : Byte → Bool} {s : State}
    (h : s.runState ≠ .running ∨ isAdmitted (fetch s) = false ∨ admitted (s.mem.read s.pc) = true) :
    stepRestricted admitted s = step s := by
  by_cases hrun : s.runState = .running
  · rcases h with hterm | hnot | hin
    · exact absurd hrun hterm
    · simp [stepRestricted_running hrun, hnot]
    · simp [stepRestricted_running hrun, hin]
  · rw [stepRestricted_terminal hrun, step_terminal hrun]

/-- Settles O52: the removed opcodes raise `Unimplemented`, whose state is the one stated, and the rest is `step`. -/
theorem restrictedAdmissionFaultsUnimplemented : Obligations.RestrictedAdmissionFaultsUnimplemented :=
  fun _ _ => ⟨stepRestricted_removed, stepRestricted_kept⟩

end Sys2Proof.Machine
end

section
/-! PROOF. What an operation and a step leave unchanged (10_state.md R21 to R36), and the invariant of R35. -/

namespace Sys2Proof.Machine

/-- The state a step answers: in a running core what the operation at the PC makes of it (R111), else the state itself (R116). -/
theorem step_next_cases {s t : State} (h : step s = .next t) :
    s.runState = .running ∧ t = performed (fetch s).operation s ∨ s.runState ≠ .running ∧ t = s := by
  by_cases hrun : s.runState = .running
  · rw [step_running hrun, exec_next_iff] at h
    exact .inl ⟨hrun, h⟩
  · rw [step_terminal hrun] at h
    exact .inr ⟨hrun, (Host.Outcome.next.inj h).symm⟩

/-- A branch keeps whatever does not depend on the PC. -/
theorem performed_branch_keeps {α : Type} (f : State → α) (hf : ∀ s v, f (s.setPc v) = f s) (c : Condition) (d : Int)
    (s : State) : f (performed (.branch c d) s) = f s := by
  obtain ⟨v, hv⟩ := branch_result c d s
  rw [hv, hf]

/-- SP and the flags I, D, B and U are written by no operation (R24, R32 to R34). -/
theorem performed_keeps_unwritten (o : Operation) (s : State) :
    (performed o s).sp = s.sp ∧ (performed o s).p.i = s.p.i ∧ (performed o s).p.d = s.p.d ∧
      (performed o s).p.b = s.p.b ∧ (performed o s).p.u = s.p.u := by
  cases o with
  | branch c d =>
    obtain ⟨v, hv⟩ := branch_result c d s
    simp [hv]
  | _ => exact ⟨rfl, rfl, rfl, rfl, rfl⟩

/-- Every operation keeps memory in canonical form (R50). -/
theorem performed_mem_wf (o : Operation) {s : State} (h : s.mem.wf) : (performed o s).mem.wf := by
  cases o with
  | sta _ | stx _ | sty _ | asl _ => exact Memory.wf_write h _ _
  | branch c d => rwa [performed_branch_keeps (·.mem) fun _ _ => rfl]
  | _ => exact h

/-- Every operation keeps the invariant (R35, R50). -/
theorem performed_inv (o : Operation) {s : State} (h : s.Inv) : (performed o s).Inv := by
  obtain ⟨hwf, hclear⟩ := h
  obtain ⟨hsp, hi, hd, hb, hu⟩ := performed_keeps_unwritten o s
  exact ⟨performed_mem_wf o hwf, by simpa [State.unwrittenClear, hsp, hi, hd, hb, hu] using hclear⟩

/-- Settles O44: a running step performs one operation, and a terminal one answers the same state. -/
theorem stepKeepsTheInvariant : Obligations.StepKeepsTheInvariant := by
  intro s t hinv hstep
  rcases step_next_cases hstep with ⟨-, rfl⟩ | ⟨-, rfl⟩
  · exact performed_inv _ hinv
  · exact hinv

/-- Settles O45: reset clears SP and P and keeps memory, and a new core's memory is empty. -/
theorem resetMeetsTheInvariant : Obligations.ResetMeetsTheInvariant :=
  ⟨⟨Memory.wf_nil, rfl, rfl, rfl, rfl, rfl⟩, fun _ hwf => ⟨hwf, rfl, rfl, rfl, rfl, rfl⟩⟩

/-- C is kept by every operation but ASL and ADC (R28). -/
theorem performed_p_c {o : Operation} (s : State) (h : Claims.writesC o = false) : (performed o s).p.c = s.p.c := by
  cases o with
  | adc _ | aslA | asl _ => cases h
  | branch c d => exact performed_branch_keeps (·.p.c) (fun _ _ => rfl) c d s
  | _ => rfl

/-- V is kept by every operation but ADC (R31). -/
theorem performed_p_v {o : Operation} (s : State) (h : Claims.writesV o = false) : (performed o s).p.v = s.p.v := by
  cases o with
  | adc _ => cases h
  | branch c d => exact performed_branch_keeps (·.p.v) (fun _ _ => rfl) c d s
  | _ => rfl

/-- Z and N are kept by the stores, the branches, BRK and the faults (R29, R30, 90_conflicts.md C8). -/
theorem performed_p_zn {o : Operation} (s : State) (h : Claims.writesZN o = false) :
    (performed o s).p.z = s.p.z ∧ (performed o s).p.n = s.p.n := by
  cases o with
  | sta _ | stx _ | sty _ | brk | unimplemented _ | illegal => exact ⟨rfl, rfl⟩
  | branch c d =>
    obtain ⟨v, hv⟩ := branch_result c d s
    simp [hv]
  | _ => cases h

/-- A is kept by every operation but LDA, AND, ASL A and ADC (R21). -/
theorem performed_a {o : Operation} (s : State) (h : Claims.writesA o = false) : (performed o s).a = s.a := by
  cases o with
  | lda _ | and _ | adc _ | aslA => cases h
  | branch c d => exact performed_branch_keeps (·.a) (fun _ _ => rfl) c d s
  | _ => rfl

/-- X is kept by every operation but TAX and INX (R22). -/
theorem performed_x {o : Operation} (s : State) (htax : o ≠ .tax) (hinx : o ≠ .inx) : (performed o s).x = s.x := by
  cases o with
  | tax | inx => contradiction
  | branch c d => exact performed_branch_keeps (·.x) (fun _ _ => rfl) c d s
  | _ => rfl

/-- Y is kept by every operation but TAY and INY (R23). -/
theorem performed_y {o : Operation} (s : State) (htay : o ≠ .tay) (hiny : o ≠ .iny) : (performed o s).y = s.y := by
  cases o with
  | tay | iny => contradiction
  | branch c d => exact performed_branch_keeps (·.y) (fun _ _ => rfl) c d s
  | _ => rfl

/-- The run state is kept by every operation but BRK and the two faults (R36). -/
theorem performed_runState {o : Operation} (s : State) (h : Claims.endsTheRun o = false) :
    (performed o s).runState = s.runState := by
  cases o with
  | brk | unimplemented _ | illegal => cases h
  | branch c d => exact performed_branch_keeps (·.runState) (fun _ _ => rfl) c d s
  | _ => rfl

/-- Memory is kept by every operation that has no address to store to (R59). -/
theorem performed_mem {o : Operation} {s : State} (h : Claims.storeAddress o s = none) : (performed o s).mem = s.mem := by
  cases o with
  | sta _ | stx _ | sty _ | asl _ => cases h
  | branch c d => exact performed_branch_keeps (·.mem) (fun _ _ => rfl) c d s
  | _ => rfl

/-- Settles O32, flag by flag. -/
theorem flagsChangeOnlyByTheirWriters : Obligations.FlagsChangeOnlyByTheirWriters := by
  intro i s t h
  obtain rfl := exec_next_iff.mp h
  obtain ⟨-, hunwritten⟩ := performed_keeps_unwritten i.operation s
  exact ⟨performed_p_c s, performed_p_v s, performed_p_zn s, hunwritten⟩

/-- Settles O33, register by register. -/
theorem registersChangeOnlyByTheirWriters : Obligations.RegistersChangeOnlyByTheirWriters := by
  intro i s t h
  obtain rfl := exec_next_iff.mp h
  obtain ⟨hsp, -⟩ := performed_keeps_unwritten i.operation s
  exact ⟨performed_a s, performed_x s, performed_y s, hsp, performed_runState s, performed_mem⟩

end Sys2Proof.Machine
end

section
/-! PROOF. SP and the flags I, D, B and U influence nothing (10_state.md R24, R32 to R34): clearing them before a step or after
it makes no difference. -/

namespace Sys2Proof.Machine

/-- P with the flags that no instruction reads clear. -/
def Flags.clearUnread (p : Flags) : Flags := { p with i := false, d := false, b := false, u := false }

/-- The state with SP and the flags that no instruction reads clear. -/
def State.clearUnread (s : State) : State := { s with sp := 0, p := s.p.clearUnread }

/-- Two states agree where they are read when clearing the rest leaves one state. -/
theorem agreeWhereRead_iff {s s' : State} : Claims.agreeWhereRead s s' ↔ s.clearUnread = s'.clearUnread := by
  simp only [Claims.agreeWhereRead, State.clearUnread, Flags.clearUnread, State.mk.injEq, Flags.mk.injEq]
  tauto

/-- Effective addresses do not look at what is cleared. -/
@[simp] theorem ea_clearUnread (o : MemOperand) (s : State) : ea o s.clearUnread = ea o s := by cases o <;> rfl

/-- Source operands do not look at what is cleared. -/
@[simp] theorem sourceValue_clearUnread (src : Source) (s : State) : sourceValue src s.clearUnread = sourceValue src s := by
  cases src with
  | immediate v => rfl
  | memory o => exact congrArg s.mem.read (ea_clearUnread o s)

/-- Branch conditions do not look at what is cleared. -/
@[simp] theorem conditionHolds_clearUnread (p : Flags) (c : Condition) :
    conditionHolds p.clearUnread c = conditionHolds p c := by cases c <;> rfl

/-- An operation of the cleared state answers the cleared state; ADC among them, binary whatever D holds (R186). -/
theorem performed_clearUnread (o : Operation) (s : State) : performed o s.clearUnread = (performed o s).clearUnread := by
  cases o with
  | lda src | and src | adc src => simp only [performed, sourceValue_clearUnread]; rfl
  | sta dst | stx dst | sty dst => simp only [performed, ea_clearUnread]; rfl
  | asl dst => simp only [performed, loadByte, ea_clearUnread]; rfl
  | branch c d =>
    have hcond : conditionHolds s.clearUnread.p c = conditionHolds s.p c := conditionHolds_clearUnread s.p c
    simp only [performed, hcond]
    split <;> rfl
  | _ => rfl

/-- A step of the cleared state answers the cleared state. -/
theorem step_clearUnread {s t : State} (h : step s = .next t) : step s.clearUnread = .next t.clearUnread := by
  rcases step_next_cases h with ⟨hrun, rfl⟩ | ⟨hterm, rfl⟩
  · have hrun' : s.clearUnread.runState = .running := hrun
    rw [step_running hrun', exec_eq, performed_clearUnread]
    rfl
  · exact step_terminal hterm

/-- Settles O35: cleared, the two states are one, and so are the states they step to. -/
theorem unusedStateIsNeverRead : Obligations.UnusedStateIsNeverRead := by
  intro s s' t t' hagree hstep hstep'
  rw [agreeWhereRead_iff] at hagree ⊢
  have hnext := step_clearUnread hstep
  rw [hagree, step_clearUnread hstep'] at hnext
  exact (Host.Outcome.next.inj hnext).symm

end Sys2Proof.Machine
end

section
/-! PROOF. P as a byte (10_state.md R27, 92_eei_decisions.md D8). -/

namespace Sys2Proof.Machine

/-- The one bit of a flag's byte. -/
theorem getLsbD_flagBit (f : Bool) (k j : Nat) : (flagBit f k).getLsbD j = (f && decide (j < 8) && decide (j = k)) := by
  cases f with
  | false => simp [flagBit]
  | true =>
    rw [Bool.eq_iff_iff]
    simp [flagBit]
    omega

/-- The bits of P's byte, in the positions of R27. -/
theorem Flags.getLsbD_toByte (p : Flags) :
    p.toByte.getLsbD 0 = p.c ∧ p.toByte.getLsbD 1 = p.z ∧ p.toByte.getLsbD 2 = p.i ∧ p.toByte.getLsbD 3 = p.d ∧
    p.toByte.getLsbD 4 = p.b ∧ p.toByte.getLsbD 5 = p.u ∧ p.toByte.getLsbD 6 = p.v ∧ p.toByte.getLsbD 7 = p.n := by
  simp only [toByte, BitVec.getLsbD_or, getLsbD_flagBit]
  simp

/-- The byte of P determines it. -/
theorem Flags.ofByte_toByte (p : Flags) : Flags.ofByte p.toByte = p := by
  obtain ⟨hc, hz, hi, hd, hb, hu, hv, hn⟩ := p.getLsbD_toByte
  simp only [ofByte, hc, hz, hi, hd, hb, hu, hv, hn]

/-- Every byte is the byte of its flags. -/
theorem Flags.toByte_ofByte (w : Byte) : (Flags.ofByte w).toByte = w := by
  obtain ⟨h0, h1, h2, h3, h4, h5, h6, h7⟩ := getLsbD_toByte (ofByte w)
  refine BitVec.eq_of_getLsbD_eq fun k hk => ?_
  interval_cases k
  exacts [h0, h1, h2, h3, h4, h5, h6, h7]

/-- Settles O36: the bits of the byte, and the two directions of the inverse. -/
theorem statusByteLayout : Obligations.StatusByteLayout := by
  refine ⟨fun p => ?_, Flags.toByte_ofByte⟩
  obtain ⟨h0, h1, h2, h3, h4, h5, h6, h7⟩ := p.getLsbD_toByte
  exact ⟨h0, h1, h2, h3, h4, h5, h6, h7, p.ofByte_toByte⟩

end Sys2Proof.Machine
end

section
/-! PROOF. Memory (20_memory.md): what a write and a list of writes leave to be read, words, the loader, and that a memory in
canonical form is what it reads as. -/

namespace Sys2Proof.Machine

/-- A byte write is not seen at another address, in canonical form or not (R52). -/
theorem Memory.read_write_other (m : Memory) {a b : Address} (v : Byte) (h : b ≠ a) : (m.write a v).read b = m.read b :=
  cellAt_setCell_other m a.toNat b.toNat v fun hn => h (BitVec.eq_of_toNat_eq hn)

/-- What a byte write leaves to be read (R52). -/
theorem Memory.read_write {m : Memory} (h : m.wf) (a b : Address) (v : Byte) :
    (m.write a v).read b = if b = a then v else m.read b := by
  split
  next hba => subst hba; exact cellAt_setCell_same m b.toNat v h.1
  next hba => exact m.read_write_other v hba

/-- Settles O37, from the one rule for a read after a write. -/
theorem byteWriteSetsOneCell : Obligations.ByteWriteSetsOneCell := fun m _ v hwf =>
  ⟨by rw [Memory.read_write hwf, if_pos rfl], fun _ hb => m.read_write_other v hb⟩

/-- What a word write leaves to be read (R54). -/
theorem Memory.read_write16 {m : Memory} (h : m.wf) (a b w : Address) :
    (m.write16 a w).read b = if b = a + 1 then highByte w else if b = a then lowByte w else m.read b := by
  rw [write16, read_write (wf_write h _ _), read_write h]

/-- A word write is read back (R55). -/
theorem Memory.read16_write16 {m : Memory} (h : m.wf) (a w : Address) : (m.write16 a w).read16 a = w := by
  simp [read16, read_write16 h]

/-- Settles O38: the two bytes of the word, its frame and the word again. -/
theorem wordReadAfterWordWrite : Obligations.WordReadAfterWordWrite := by
  intro m a w hwf
  have hne : a ≠ a + 1 := by bv_omega
  have hnext : BitVec.ofNat 16 ((a.toNat + 1) % 65536) = a + 1 := by bv_omega
  refine ⟨?_, ?_, fun b hb hb1 => ?_, Memory.read16_write16 hwf a w⟩
  · rw [Memory.read_write16 hwf, if_neg hne, if_pos rfl, lowByte_toNat]
  · rw [hnext, Memory.read_write16 hwf, if_pos rfl, highByte_toNat]
  · rw [Memory.read_write16 hwf, if_neg hb1, if_neg hb]

/-- A cell listed under rising addresses is the one read at its address. -/
theorem Memory.cellAt_of_mem {m : Memory} (h : m.Pairwise (fun c d => c.1 < d.1)) {c : Host.Cell} (hc : c ∈ m) :
    m.cellAt c.1 = c.2 := by
  induction m with
  | nil => cases hc
  | cons d m ih =>
    obtain ⟨hd, hm⟩ := List.pairwise_cons.mp h
    rcases List.mem_cons.mp hc with rfl | hc
    · simp [cellAt]
    · simp [cellAt, Nat.ne_of_lt (hd c hc), ih hm hc]

/-- An address that does not read as an unlisted one is listed. -/
theorem Memory.mem_of_cellAt_ne {m : Memory} {k : Nat} (h : m.cellAt k ≠ memoryDefault) : (k, m.cellAt k) ∈ m := by
  induction m with
  | nil => exact absurd rfl h
  | cons d m ih =>
    obtain ⟨j, v⟩ := d
    by_cases hjk : j = k
    · simp [cellAt, hjk]
    · simp only [cellAt, hjk, if_false] at h ⊢
      exact List.mem_cons_of_mem _ (ih h)

/-- A cell of one memory is a cell of every memory that reads as it does: it does not hold what an unlisted address reads as. -/
theorem Memory.mem_of_same_reads {m m' : Memory} (hwf : m.wf) (hread : ∀ a : Address, m.read a = m'.read a) {c : Host.Cell}
    (hc : c ∈ m) : c ∈ m' := by
  obtain ⟨hlt, hdefault⟩ := hwf.2 c hc
  have hkey : (BitVec.ofNat 16 c.1).toNat = c.1 := Nat.mod_eq_of_lt hlt
  have hcell : m'.cellAt c.1 = c.2 := by
    have hsame := hread (BitVec.ofNat 16 c.1)
    rw [read, read, hkey, cellAt_of_mem hwf.1 hc] at hsame
    exact hsame.symm
  have hmem := mem_of_cellAt_ne (hcell ▸ hdefault)
  rwa [hcell] at hmem

/-- Settles O39: the two lists have the same cells, and their addresses rise. -/
theorem memoryIsDeterminedByItsReads : Obligations.MemoryIsDeterminedByItsReads := by
  intro m m' hwf hwf' hread
  have hirrefl : Std.Irrefl fun c d : Host.Cell => c.1 < d.1 := ⟨fun c => Nat.lt_irrefl c.1⟩
  have hantisymm : Std.Antisymm fun c d : Host.Cell => c.1 < d.1 := ⟨fun _ _ h h' => absurd h (Nat.lt_asymm h')⟩
  exact hwf.1.eq_of_mem_iff hwf'.1 fun c =>
    ⟨Memory.mem_of_same_reads hwf hread, Memory.mem_of_same_reads hwf' fun a => (hread a).symm⟩

/-- What a list of writes leaves to be read, the addresses wrapping: at most one byte of it lands on an address, for there are
no more of them than addresses (R58). -/
theorem Memory.read_writeBytes {m : Memory} (h : m.wf) (a b : Address) (bs : List Byte) (hlen : bs.length ≤ 65536) :
    (m.writeBytes a bs).read b = bs.getD (b - a).toNat (m.read b) := by
  induction bs generalizing m a with
  | nil => rfl
  | cons v bs ih =>
    rw [List.length_cons] at hlen
    rw [writeBytes, ih (wf_write h a v) (a + 1) (by omega), read_write h]
    by_cases hba : b = a
    · have hpast : bs.length ≤ (b - (a + 1)).toNat := by bv_omega
      have hfirst : (b - a).toNat = 0 := by bv_omega
      rw [if_pos hba, List.getD_eq_default _ _ hpast, hfirst, List.getD_cons_zero]
    · have hlater : (b - a).toNat = (b - (a + 1)).toNat + 1 := by bv_omega
      rw [if_neg hba, hlater, List.getD_cons_succ]

/-- Settles O40: below the bound the addresses do not wrap, so an address is that many places above the first one or has no
byte of the image. -/
theorem bulkCopyLoadsOrRefuses : Obligations.BulkCopyLoadsOrRefuses := by
  intro addr bytes s hwf
  refine ⟨fun hover => if_pos hover, fun hfits => ⟨_, if_neg (Nat.not_lt.mpr hfits), rfl, fun b => ?_⟩⟩
  rw [State.setMem_mem, Memory.read_writeBytes hwf addr b bytes (by omega)]
  split
  next hin =>
    have hindex : (b - addr).toNat = b.toNat - addr.toNat := by bv_omega
    have hlt : b.toNat - addr.toNat < bytes.length := by omega
    rw [hindex, List.getD_eq_getElem _ _ hlt, List.getD_eq_getElem _ _ hlt]
  next hout =>
    have hpast : bytes.length ≤ (b - addr).toNat := by bv_omega
    exact List.getD_eq_default _ _ hpast

end Sys2Proof.Machine
end

section
/-! PROOF. Stores: what they leave in memory (20_memory.md R59, R61), and that the next fetch sees it (R68). -/

namespace Sys2Proof.Machine

/-- The shift doubles modulo 256 (R175). -/
theorem shl8_eq (v : Byte) : shl8 v = BitVec.ofNat 8 (2 * v.toNat) := by
  apply BitVec.eq_of_toNat_eq
  simp [shl8, BitVec.toNat_shiftLeft, Nat.shiftLeft_eq, Nat.mul_comm]

/-- An operation that has an address to store to is one byte write there, of the byte it has to store, and advances the PC past
its operand; the core runs on (R59, R133, R119). -/
theorem performed_of_storeAddress {o : Operation} {s : State} {e : Address} (h : Claims.storeAddress o s = some e) :
    ∃ v, Claims.storedByte o s = some v ∧ (performed o s).mem = s.mem.write e v ∧
      (performed o s).pc = s.pc + 1 + BitVec.ofNat 16 o.decodeClass.operandLength ∧
      (performed o s).runState = s.runState := by
  cases o with
  | sta dst | stx dst | sty dst =>
    cases h
    exact ⟨_, rfl, rfl, rfl, rfl⟩
  | asl dst =>
    cases h
    exact ⟨_, rfl, congrArg (s.mem.write (ea dst s)) (shl8_eq (loadByte dst s)), rfl, rfl⟩
  | _ => cases h

/-- Settles O34: an operation writes the byte at its store address, or nothing. -/
theorem memoryChangesOnlyAtTheStoreAddress : Obligations.MemoryChangesOnlyAtTheStoreAddress := by
  intro i s t b hexec hb
  obtain rfl := exec_next_iff.mp hexec
  cases he : Claims.storeAddress i.operation s with
  | none => rw [performed_mem he]
  | some e =>
    obtain ⟨v, -, hmem, -, -⟩ := performed_of_storeAddress he
    have hbe : b ≠ e := fun hbe => hb (hbe ▸ he)
    rw [hmem, Memory.read_write_other s.mem v hbe]

/-- A row's instruction keeps the row's opcode byte, whatever the operand bytes. -/
theorem opcodeOf_build_rowOf (i : Instr) (b1 b2 : Byte) : opcodeOf ((rowOf i).build b1 b2) = opcodeOf i := by
  cases i <;> rfl

/-- Decoding keeps the opcode byte (R81). -/
@[simp] theorem opcodeOf_decodeAt (op b1 b2 : Byte) : opcodeOf (decodeAt op b1 b2) = op := by
  obtain ⟨i, rfl, -⟩ := opcodeRow_inv op
  rw [decodeAt_eq_build, opcodeOf_build_rowOf]

/-- The opcode byte of what is fetched is the byte at the PC (R111, R113). -/
theorem opcodeOf_fetch (s : State) : opcodeOf (fetch s) = s.mem.read s.pc := opcodeOf_decodeAt _ _ _

/-- Settles O48: after the store, memory is the old one but for the byte written, and a fetch reads memory. -/
theorem storeIsSeenByTheNextFetch : Obligations.StoreIsSeenByTheNextFetch := by
  intro s t e v hrun hwf he hv hstep seen
  rw [step_running hrun, exec_next_iff] at hstep
  obtain ⟨v', hv', hmem, hpc, hrun'⟩ := performed_of_storeAddress he
  obtain rfl : v' = v := Option.some.inj (hv'.symm.trans hv)
  rw [← hstep] at hmem hpc hrun'
  have hseen : ∀ a, t.mem.read a = seen a := fun a => by rw [hmem, Memory.read_write hwf]
  have hfetch : ∀ p, fetch { t with pc := p } = decodeAt (seen p) (seen (p + 1)) (seen (p + 2)) := fun p => by
    simp only [fetch, hseen]
  refine ⟨hfetch, hpc, ?_, fun hte => ?_⟩
  · rw [step_running (hrun'.trans hrun)]
    exact congrArg (exec · t) (hfetch t.pc)
  · rw [opcodeOf_fetch, hseen]
    exact if_pos hte

end Sys2Proof.Machine
end

section
/-! PROOF. The decoder and the encoder are each other's inverse (30_encoding.md R80 to R82), argued once for each format of a row
of the opcode map. -/

namespace Sys2Proof.Machine

/-- What a row says of an instruction that stands in it: the instruction is the row with an operand filled in, and every
instruction made that way is well-formed (a displacement when it fits) and has the operand's bytes, low byte first (R81, R82). -/
def RowHolds (i : Instr) : Row → Prop
  | .one j => j = i ∧ j.wellFormed = true ∧ j.operation.operandBytes = []
  | .two k => (∃ b, k b = i) ∧ ∀ b, (k b).wellFormed = true ∧ (k b).operation.operandBytes = [b]
  | .relative k =>
    (∃ d, k d = i) ∧ ∀ d, (k d).wellFormed = displacementFits d ∧ (k d).operation.operandBytes = [displacementByte d]
  | .three k =>
    (∃ w, k w = i) ∧ ∀ w, (k w).wellFormed = true ∧ (k w).operation.operandBytes = [lowByte w, highByte w]

/-- Every instruction stands in its row. -/
theorem rowHolds_rowOf (i : Instr) : RowHolds i (rowOf i) := by
  cases i <;> simp [rowOf, RowHolds, Instr.wellFormed, Instr.operation, Operation.wellFormed, Operation.operandBytes,
    Source.bytes, MemOperand.bytes]

/-- Filled with two bytes, a row's instruction has as many of them as operand bytes as the row waits for, and is well-formed. -/
theorem RowHolds.build {i : Instr} {r : Row} (h : RowHolds i r) (b1 b2 : Byte) :
    (r.build b1 b2).wellFormed = true ∧ (r.build b1 b2).operation.operandBytes = [b1, b2].take r.operandLength := by
  cases r with
  | one j => exact h.2
  | two k => exact h.2 b1
  | relative k =>
    obtain ⟨hwf, hbytes⟩ := h.2 (displacementOf b1)
    exact ⟨hwf.trans (displacementFits_of b1), hbytes.trans (by rw [displacementByte_of]; rfl)⟩
  | three k =>
    obtain ⟨hwf, hbytes⟩ := h.2 (wordOf b2 b1)
    exact ⟨hwf, hbytes.trans (by rw [lowByte_wordOf, highByte_wordOf]; rfl)⟩

/-- A well-formed instruction is its row filled with two bytes, those of its operand first. -/
theorem RowHolds.exists_build {i : Instr} {r : Row} (h : RowHolds i r) (hwf : i.wellFormed = true) :
    ∃ b1 b2, r.build b1 b2 = i := by
  cases r with
  | one j => exact ⟨0, 0, h.1⟩
  | two k =>
    obtain ⟨⟨b, rfl⟩, -⟩ := h
    exact ⟨b, 0, rfl⟩
  | relative k =>
    obtain ⟨⟨d, rfl⟩, hk⟩ := h
    have hfits : displacementFits d = true := (hk d).1 ▸ hwf
    exact ⟨displacementByte d, 0, congrArg k (displacementOf_byte d hfits)⟩
  | three k =>
    obtain ⟨⟨w, rfl⟩, -⟩ := h
    exact ⟨lowByte w, highByte w, congrArg k (wordOf_bytes w)⟩

/-- A row takes from a list the operand bytes it waits for, no more and no fewer, and fills itself with them (R82). -/
theorem take_eq_ok_iff {r : Row} {bytes rest : List Byte} {i : Instr} :
    r.take bytes = .ok (i, rest) ↔ ∃ b1 b2, r.build b1 b2 = i ∧ bytes = [b1, b2].take r.operandLength ++ rest := by
  cases r with
  | one j => simp [Row.take, Row.build, Row.operandLength, eq_comm]
  | two k | relative k => cases bytes <;> simp [Row.take, Row.build, Row.operandLength, eq_comm]
  | three k =>
    match bytes with
    | [] | [_] => simp [Row.take, Row.build, Row.operandLength]
    | b1 :: b2 :: bs => simp [Row.take, Row.build, Row.operandLength, eq_comm]

/-- What a list of bytes decodes to: the instruction of its opcode byte and the operand bytes that byte's row waits for (R81). -/
theorem decode_eq_ok_iff {bytes rest : List Byte} {i : Instr} :
    decode bytes = .ok (i, rest) ↔
      ∃ op b1 b2, decodeAt op b1 b2 = i ∧ bytes = op :: ([b1, b2].take (opcodeRow op).operandLength ++ rest) := by
  cases bytes with
  | nil => simp [decode]
  | cons op bytes => simp [decode, take_eq_ok_iff, decodeAt]

/-- Every decoded instruction is well-formed, and its encoding is the opcode byte and the operand bytes its row waits for. -/
theorem decodeAt_wellFormed_encode (op b1 b2 : Byte) :
    (decodeAt op b1 b2).wellFormed = true ∧
      encode (decodeAt op b1 b2) = op :: [b1, b2].take (opcodeRow op).operandLength := by
  obtain ⟨i, -, hrow⟩ := opcodeRow_inv op
  obtain ⟨hwf, hbytes⟩ := (rowHolds_rowOf i).build b1 b2
  rw [← hrow] at hwf hbytes
  exact ⟨hwf, congrArg₂ List.cons (opcodeOf_decodeAt op b1 b2) hbytes⟩

/-- Every well-formed instruction is decoded from its opcode byte and some two bytes. -/
theorem exists_decodeAt {i : Instr} (h : i.wellFormed = true) : ∃ b1 b2, decodeAt (opcodeOf i) b1 b2 = i := by
  simpa only [decodeAt_eq_build] using (rowHolds_rowOf i).exists_build h

/-- Settles O1: the instruction is decoded from its opcode byte and two bytes, and encodes to those its row waits for. -/
theorem decodeOfEncodeIsIdentity : Obligations.DecodeOfEncodeIsIdentity := by
  intro i rest hwf
  obtain ⟨b1, b2, hi⟩ := exists_decodeAt hwf
  obtain ⟨-, hencode⟩ := decodeAt_wellFormed_encode (opcodeOf i) b1 b2
  rw [hi] at hencode
  exact decode_eq_ok_iff.mpr ⟨opcodeOf i, b1, b2, hi, congrArg (· ++ rest) hencode⟩

/-- Settles O2: the bytes read are those the decoded instruction encodes to. -/
theorem encodeOfDecodeIsIdentity : Obligations.EncodeOfDecodeIsIdentity := by
  intro bytes rest i hdecode
  obtain ⟨op, b1, b2, rfl, rfl⟩ := decode_eq_ok_iff.mp hdecode
  obtain ⟨hwf, hencode⟩ := decodeAt_wellFormed_encode op b1 b2
  exact ⟨hwf, congrArg (· ++ rest) hencode⟩

end Sys2Proof.Machine
end

section
/-! PROOF. The opcode byte alone gives the class of an instruction (30_encoding.md R81, R89), the one of the tables of R83, R86
and R87; and every class has a meaning (R80). -/

namespace Sys2Proof.Machine

/-- A row's instruction keeps the row's class, whatever the operand bytes (R89). -/
theorem decodeClass_build_rowOf (i : Instr) (b1 b2 : Byte) : ((rowOf i).build b1 b2).decodeClass = i.decodeClass := by
  cases i <;> rfl

/-- The class of a decoded instruction is that of its opcode byte with zeros after it (R89). -/
theorem decodeClass_decodeAt (op b1 b2 : Byte) : (decodeAt op b1 b2).decodeClass = (decodeAt op 0 0).decodeClass := by
  obtain ⟨i, rfl, -⟩ := opcodeRow_inv op
  simp only [decodeAt_eq_build, decodeClass_build_rowOf]

/-- Settles O6, from what decoding makes of the opcode byte alone. -/
theorem opcodeByteAloneSelectsTheInstruction : Obligations.OpcodeByteAloneSelectsTheInstruction := fun op b1 b2 c1 c2 =>
  ⟨(decodeClass_decodeAt op b1 b2).trans (decodeClass_decodeAt op c1 c2).symm, opcodeOf_decodeAt op b1 b2⟩

/-- The rows a table like that of R83 has for an opcode byte of a class: one when it is admitted, else none. -/
def tableRowsOf (op : Byte) : DecodeClass → List (Kind × Mode × Byte × Nat)
  | .admitted k m len => [(k, m, op, len + 1)]
  | .unimplemented _ => []
  | .illegal => []

/-- The one row of an admitted class determines the class. -/
theorem mem_tableRowsOf {op : Byte} {c : DecodeClass} {k : Kind} {m : Mode} {len : Nat} :
    (k, m, op, len + 1) ∈ tableRowsOf op c ↔ c = .admitted k m len := by
  cases c <;> simp [tableRowsOf, eq_comm]

/-- The rows of the table of R83 with an opcode byte are those of the class the byte decodes to. -/
theorem admittedTable_filter_byte :
    ∀ op : Byte, Claims.admittedTable.filter (·.2.2.1 == op) = tableRowsOf op (decodeAt op 0 0).decodeClass := by
  decide

/-- Settles O4: a row of the table is one of its opcode byte's rows. -/
theorem admittedOpcodesAreTheTable : Obligations.AdmittedOpcodesAreTheTable := by
  refine ⟨rfl, fun op b1 b2 k m len => ?_⟩
  rw [decodeClass_decodeAt, ← mem_tableRowsOf, ← admittedTable_filter_byte, List.mem_filter]
  exact and_iff_left (beq_self_eq_true op)

/-- The class is that of an unimplemented byte. -/
def isUnimplemented : DecodeClass → Bool
  | .admitted _ _ _ => false
  | .unimplemented _ => true
  | .illegal => false

/-- What makes a class unimplemented is some mnemonic. -/
theorem isUnimplemented_iff {c : DecodeClass} : isUnimplemented c = true ↔ ∃ m, c = .unimplemented m := by
  cases c <;> simp [isUnimplemented]

/-- The unimplemented bytes are those R86 lists. -/
theorem isUnimplemented_byte_iff :
    ∀ op : Byte, isUnimplemented (decodeAt op 0 0).decodeClass = true ↔ op ∈ Claims.unimplementedBytes := by
  decide

/-- The illegal bytes are those R87 lists. -/
theorem illegal_byte_iff : ∀ op : Byte, (decodeAt op 0 0).decodeClass = .illegal ↔ op ∈ Claims.illegalBytes := by
  decide

/-- Settles O5, from the two lists of bytes. -/
theorem otherOpcodesAreUnimplementedOrIllegal : Obligations.OtherOpcodesAreUnimplementedOrIllegal := by
  refine ⟨rfl, rfl, fun op b1 b2 => ?_⟩
  rw [decodeClass_decodeAt, ← isUnimplemented_iff]
  exact ⟨isUnimplemented_byte_iff op, illegal_byte_iff op⟩

/-- Settles O3, each word by running the decoder on it. -/
theorem specWordsDecodeToTheirInstructions : Obligations.SpecWordsDecodeToTheirInstructions :=
  ⟨rfl, rfl, rfl, rfl, rfl, rfl, rfl, rfl, rfl, rfl, rfl, rfl, rfl, rfl⟩

/-- Settles O9: what is fetched has a meaning in a running core, and a terminal one answers itself. -/
theorem stepAlwaysAnswersANextState : Obligations.StepAlwaysAnswersANextState := by
  intro s
  by_cases hrun : s.runState = .running
  · exact ⟨_, (step_running hrun).trans (exec_eq (fetch s) s)⟩
  · exact ⟨s, step_terminal hrun⟩

end Sys2Proof.Machine
end

section
/-! PROOF. The assembler's branch displacements (30_encoding.md R90, 43_control_flow.md R201). -/

namespace Sys2Proof.Machine

/-- The target of a taken branch, counted in numbers, is the sum of addresses (R201). -/
theorem branchTarget_eq (pc0 : Address) (d : Int) : BitVec.ofInt 16 (pc0.toNat + 2 + d) = pc0 + 2 + BitVec.ofInt 16 d := by
  simp only [BitVec.ofInt_add, BitVec.ofInt_natCast, BitVec.ofNat_toNat, BitVec.setWidth_eq]
  rfl

/-- The bounds of a displacement that fits (R90). -/
theorem displacementFits_iff {d : Int} : displacementFits d = true ↔ -128 ≤ d ∧ d ≤ 127 := by simp [displacementFits]

/-- A displacement that fits survives its address. -/
theorem toInt_ofInt_of_fits {d : Int} (h : displacementFits d = true) : (BitVec.ofInt 16 d).toInt = d := by
  rw [displacementFits_iff] at h
  simp only [BitVec.toInt_ofInt, Int.bmod_def]
  omega

/-- The assembler finds the one displacement that fits and whose taken branch goes to the target (R90). -/
theorem branchDisplacement_eq_some_iff {pc0 target : Address} {d : Int} :
    branchDisplacement pc0 target = some d ↔ displacementFits d = true ∧ pc0 + 2 + BitVec.ofInt 16 d = target := by
  simp only [branchDisplacement, Option.ite_none_right_eq_some, Option.some.injEq]
  constructor
  · rintro ⟨hfits, rfl⟩
    exact ⟨hfits, by rw [BitVec.ofInt_toInt, BitVec.add_comm, BitVec.sub_add_cancel]⟩
  · rintro ⟨hfits, rfl⟩
    have hd : (pc0 + 2 + BitVec.ofInt 16 d - (pc0 + 2)).toInt = d := by
      rw [BitVec.add_comm, BitVec.add_sub_cancel, toInt_ofInt_of_fits hfits]
    exact ⟨hd.symm ▸ hfits, hd⟩

/-- Settles O53, both parts from the one equivalence for what the assembler finds. -/
theorem assembledBranchReachesItsTarget : Obligations.AssembledBranchReachesItsTarget := by
  refine ⟨fun pc0 target d h => ?_, fun pc0 d hlow hhigh => ?_⟩
  · obtain ⟨hfits, htarget⟩ := branchDisplacement_eq_some_iff.mp h
    obtain ⟨hlow, hhigh⟩ := displacementFits_iff.mp hfits
    exact ⟨hlow, hhigh, (branchTarget_eq pc0 d).trans htarget⟩
  · exact branchDisplacement_eq_some_iff.mpr ⟨displacementFits_iff.mpr ⟨hlow, hhigh⟩, (branchTarget_eq pc0 d).symm⟩

end Sys2Proof.Machine
end

section
/-! PROOF. Steps and runs (40_execution_cycle.md R110 to R117): a step is the meaning of what is fetched, and a run is that many
steps, in a terminal state too. -/

namespace Sys2Proof.Machine

/-- Settles O7: what the bytes at the PC decode to is what is fetched. -/
theorem stepExecutesTheDecodedInstruction : Obligations.StepExecutesTheDecodedInstruction := by
  intro s i rest hrun hdecode
  obtain ⟨rest', hfetch⟩ := decode_fetchBytes s
  obtain ⟨rfl, -⟩ := Prod.mk.inj (Except.ok.inj (hfetch.symm.trans hdecode))
  exact step_running hrun

/-- Settles O8: Halted and Faulted are the run states other than Running. -/
theorem terminalStatesAbsorbUntilReset : Obligations.TerminalStatesAbsorbUntilReset := by
  refine fun s => ⟨fun hterm => step_terminal ?_, s.hostReset_runState⟩
  rcases hterm with hhalt | ⟨r, hfault⟩
  · simp [hhalt]
  · simp [hfault]

/-- A run from a terminal state stays there, whatever the fuel (R117). -/
theorem run_terminal {s : State} (h : s.runState ≠ .running) (n : Nat) : run n s = .next s := by
  cases n with
  | zero => rfl
  | succ n => cases hr : s.runState <;> simp_all [run]

/-- A run with one more step of fuel is that step and the run from where it leads, from a terminal state too (R116, R117). -/
theorem run_succ_of_step {s t : State} (h : step s = .next t) (n : Nat) : run (n + 1) s = run n t := by
  by_cases hrun : s.runState = .running
  · simp only [run, hrun, h]
  · obtain rfl := Host.Outcome.next.inj ((step_terminal hrun).symm.trans h)
    rw [run_terminal hrun, run_terminal hrun]

/-- Settles O49, by induction on the fuel of the run that ends. -/
theorem moreFuelAfterTheEndChangesNothing : Obligations.MoreFuelAfterTheEndChangesNothing := by
  intro s t n k hrun hterm
  induction n generalizing s with
  | zero =>
    obtain rfl := Host.Outcome.next.inj hrun
    exact run_terminal hterm _
  | succ n ih =>
    obtain ⟨u, hu⟩ := stepAlwaysAnswersANextState s
    rw [run_succ_of_step hu] at hrun
    rw [Nat.add_right_comm, run_succ_of_step hu]
    exact ih u hrun

/-- The host's run with one more step of fuel, when the step answers a next state. -/
theorem coreRun_succ_of_step {s t : State} (h : step s = .next t) (n : Nat) :
    Host.Core.run core (n + 1) s = Host.Core.run core n t := by
  have hcore : core.step s = .next t := h
  simp only [Host.Core.run, hcore]

/-- Settles O50, by induction on the fuel: every step answers a next state, and both runs go on from it. -/
theorem runIsStepsOfTheCore : Obligations.RunIsStepsOfTheCore := by
  intro n
  induction n with
  | zero => exact fun _ => rfl
  | succ n ih =>
    intro s
    obtain ⟨t, ht⟩ := stepAlwaysAnswersANextState s
    rw [run_succ_of_step ht, coreRun_succ_of_step ht]
    exact ih t

end Sys2Proof.Machine
end

section
/-! PROOF. The run state a step ends in is that of the class of its opcode byte (40_execution_cycle.md R111, 60_exceptions.md
R220 to R227, 43_control_flow.md R210). -/

namespace Sys2Proof.Machine

/-- The run state in which a Running core ends the step of an instruction of a class: BRK halts, no other admitted kind stops,
and the two other classes fault (R210, R221, R223, R224). -/
def endRunState : DecodeClass → RunState
  | .admitted k _ _ => if k = .brk then .halted else .running
  | .unimplemented _ => .faulted .unimplemented
  | .illegal => .faulted .invalidInstruction

/-- Every operation of a Running core ends in the run state of its class. -/
theorem performed_endRunState (o : Operation) {s : State} (h : s.runState = .running) :
    (performed o s).runState = endRunState o.decodeClass := by
  cases o with
  | brk | unimplemented _ | illegal => rfl
  | branch c d =>
    rw [performed_runState s rfl, h]
    cases c <;> rfl
  | _ => exact h

/-- A Running core's step ends in the run state of the class of the byte at its PC. -/
theorem step_endRunState {s t : State} (hrun : s.runState = .running) (h : step s = .next t) :
    t.runState = endRunState (decodeAt (s.mem.read s.pc) 0 0).decodeClass := by
  rw [step_running hrun, exec_next_iff] at h
  rw [h, performed_endRunState _ hrun]
  exact congrArg endRunState (decodeClass_decodeAt _ _ _)

/-- The classes that end in Faulted(Unimplemented). -/
theorem endRunState_eq_unimplemented_iff {c : DecodeClass} :
    endRunState c = .faulted .unimplemented ↔ isUnimplemented c = true := by
  cases c with
  | admitted k m len => by_cases hk : k = .brk <;> simp [endRunState, isUnimplemented, hk]
  | unimplemented _ | illegal => simp [endRunState, isUnimplemented]

/-- The class that ends in Faulted(InvalidInstruction). -/
theorem endRunState_eq_invalid_iff {c : DecodeClass} : endRunState c = .faulted .invalidInstruction ↔ c = .illegal := by
  cases c with
  | admitted k m len => by_cases hk : k = .brk <;> simp [endRunState, hk]
  | unimplemented _ | illegal => simp [endRunState]

/-- The classes that end in Running are those of the table's rows that do not halt. -/
theorem endRunState_eq_running_iff {op : Byte} {c : DecodeClass} :
    endRunState c = .running ↔ endRunState c ≠ .halted ∧ ∃ row, row ∈ tableRowsOf op c := by
  cases c with
  | admitted k m len => by_cases hk : k = .brk <;> simp [endRunState, tableRowsOf, hk]
  | unimplemented _ | illegal => simp [endRunState, tableRowsOf]

/-- The one byte that halts is BRK's (R210). -/
theorem halts_byte_iff : ∀ op : Byte, endRunState (decodeAt op 0 0).decodeClass = .halted ↔ op = 0x00 := by decide

/-- The bytes that keep a core Running are the admitted ones of R83 but BRK's. -/
theorem keepsRunning_byte_iff (op : Byte) :
    endRunState (decodeAt op 0 0).decodeClass = .running ↔ op ≠ 0x00 ∧ ∃ row ∈ Claims.admittedTable, row.2.2.1 = op := by
  rw [endRunState_eq_running_iff (op := op), ← admittedTable_filter_byte, ne_eq, halts_byte_iff]
  simp only [List.mem_filter, beq_iff_eq, ne_eq]

/-- Settles O10, class by class. -/
theorem opcodeByteDecidesTheRunState : Obligations.OpcodeByteDecidesTheRunState := by
  intro s t hrun hstep
  rw [step_endRunState hrun hstep]
  exact ⟨halts_byte_iff _, endRunState_eq_unimplemented_iff.trans (isUnimplemented_byte_iff _),
    endRunState_eq_invalid_iff.trans (illegal_byte_iff _), keepsRunning_byte_iff _⟩

end Sys2Proof.Machine
end

section
/-! PROOF. The addressing-mode resolver on numbers (40_execution_cycle.md R120 to R130). -/

namespace Sys2Proof.Machine

/-- `zext_16` keeps the number (R11). -/
@[simp] theorem zext16_toNat (b : Byte) : (zext16 b).toNat = b.toNat :=
  BitVec.toNat_setWidth_of_le (by decide)

/-- The zero-page address of a byte, from its number. -/
theorem zext16_eq_ofNat (b : Byte) : zext16 b = BitVec.ofNat 16 b.toNat := (BitVec.ofNat_toNat 16 b).symm

/-- The address after another, from its number; it wraps at 0xFFFF (R53). -/
theorem succ_eq_ofNat (a : Address) : a + 1 = BitVec.ofNat 16 ((a.toNat + 1) % 65536) := by bv_omega

/-- A word read is little-endian (R53). -/
theorem Memory.read16_toNat (m : Memory) (a : Address) :
    (m.read16 a).toNat = 256 * (m.read (a + 1)).toNat + (m.read a).toNat := by
  rw [read16, wordOf_toNat, Nat.mul_comm]

/-- A zero-page pointer read is little-endian, its high byte at the next address of the page, wrapping (R13, 92 D6). -/
theorem Memory.zpRead16_toNat (m : Memory) (p : Byte) :
    (m.zpRead16 p).toNat = 256 * (m.read (BitVec.ofNat 16 ((p.toNat + 1) % 256))).toNat +
      (m.read (BitVec.ofNat 16 p.toNat)).toNat := by
  have hhigh : zpPointerHigh Config.zpPointerWrap p = BitVec.ofNat 16 ((p.toNat + 1) % 256) := zext16_eq_ofNat (p + 1)
  rw [zpRead16, zpRead16With, wordOf_toNat, hhigh, zext16_eq_ofNat p, Nat.mul_comm]

/-- Settles O25: bytes and words added as numbers, modulo 256 in the zero page and modulo 65536 outside. -/
theorem directModesResolve : Obligations.DirectModesResolve := by
  intro pc1 x y m op8 word
  have hword : (m.read16 pc1).toNat = word := m.read16_toNat pc1
  have hindexed : ∀ b : Byte, (m.read16 pc1 + zext16 b).toNat = (word + b.toNat) % 65536 := fun b => by
    rw [BitVec.toNat_add, hword, zext16_toNat]
  refine ⟨⟨_, rfl, zext16_toNat _, ?_⟩, ⟨_, rfl, ?_⟩, ⟨_, rfl, hword⟩, ⟨_, rfl, hindexed x⟩, ⟨_, rfl, hindexed y⟩,
    rfl, rfl, rfl, rfl, rfl⟩
  · have hlt := (m.read pc1).isLt
    rw [zext16_toNat]
    omega
  · rw [zext16_toNat, BitVec.toNat_add]

/-- Settles O26: the pointer's bytes are read at numbers that wrap in the zero page, and for Indirect at 0xFFFF only. -/
theorem pointerModesResolve : Obligations.PointerModesResolve := by
  intro pc1 x y m op8 at' zpWord ptr
  have hptr : (m.read16 pc1).toNat = ptr := m.read16_toNat pc1
  have haddr : m.read16 pc1 = BitVec.ofNat 16 ptr := by rw [← hptr, BitVec.ofNat_toNat, BitVec.setWidth_eq]
  have hzp : ∀ p : Byte, (m.zpRead16 p).toNat = zpWord p.toNat := m.zpRead16_toNat
  refine ⟨⟨_, rfl, ?_⟩, ⟨_, rfl, ?_⟩, ⟨_, rfl, ?_⟩, ⟨_, rfl, ?_⟩⟩
  · rw [zext16_toNat, BitVec.toNat_add]
  · rw [Memory.read16_toNat, succ_eq_ofNat, hptr, haddr]
  · rw [hzp, BitVec.toNat_add]
  · rw [BitVec.toNat_add, hzp, zext16_toNat]

end Sys2Proof.Machine
end

section
/-! PROOF. The operand bytes an instruction carries are those in memory after its opcode, so what its meaning computes from them
is what the resolver computes from memory (40_execution_cycle.md R120, R121, R131 to R133, log entry A3). -/

namespace Sys2Proof.Machine

/-- The operand bytes of the instruction fetched are the first ones of the two after the opcode (R113). -/
theorem fetch_operandBytes_isPrefix (s : State) :
    (fetch s).operation.operandBytes <+: [s.mem.read s.pc1, s.mem.read (s.pc1 + 1)] := by
  obtain ⟨-, hencode⟩ := decodeAt_wellFormed_encode (s.mem.read s.pc) (s.mem.read (s.pc + 1)) (s.mem.read (s.pc + 2))
  have hnext : s.pc1 + 1 = s.pc + 2 := by rw [State.pc1_eq]; bv_omega
  rw [hnext]
  exact (List.cons.inj hencode).2 ▸ ⟨_, List.take_append_drop _ _⟩

/-- One operand byte found in memory is the byte there. -/
theorem eq_read_of_isPrefix {m : Memory} {a : Address} {b : Byte} (h : [b] <+: [m.read a, m.read (a + 1)]) : b = m.read a := by
  obtain ⟨_, hbytes⟩ := h
  exact (List.cons.inj hbytes).1

/-- An operand word whose two bytes are found in memory is the word there (R53). -/
theorem eq_read16_of_isPrefix {m : Memory} {a w : Address}
    (h : [lowByte w, highByte w] <+: [m.read a, m.read (a + 1)]) : w = m.read16 a := by
  obtain ⟨_, hbytes⟩ := h
  obtain ⟨hlow, hrest⟩ := List.cons.inj hbytes
  obtain ⟨hhigh, -⟩ := List.cons.inj hrest
  rw [Memory.read16, ← hlow, ← hhigh, wordOf_bytes]

/-- The resolver finds a memory operand's effective address from the operand's bytes in memory (R122 to R130). -/
theorem resolve_memOperand {o : MemOperand} {s : State} (h : o.bytes <+: [s.mem.read s.pc1, s.mem.read (s.pc1 + 1)]) :
    resolve o.mode s.pc1 s.x s.y s.mem = some (ea o s) := by
  cases o with
  | zeroPage b | zeroPageX b | zeroPageY b | indirectX b | indirectY b =>
    obtain rfl := eq_read_of_isPrefix h
    rfl
  | absolute w | absoluteX w | absoluteY w | indirect w =>
    obtain rfl := eq_read16_of_isPrefix h
    rfl

/-- A source operand's value is the byte at the address the resolver finds from its bytes in memory (R121, R133). -/
theorem sourceValue_eq_read_resolve {src : Source} {s : State}
    (h : src.bytes <+: [s.mem.read s.pc1, s.mem.read (s.pc1 + 1)]) :
    ∃ e, resolve src.mode s.pc1 s.x s.y s.mem = some e ∧ sourceValue src s = s.mem.read e := by
  cases src with
  | immediate v => exact ⟨s.pc1, rfl, eq_read_of_isPrefix h⟩
  | memory o => exact ⟨ea o s, resolve_memOperand h, rfl⟩

/-- The resolver finds an operation's effective address from the operand bytes in memory, and none where there is none (R131,
R132). -/
theorem resolve_eq_effectiveAddress {o : Operation} {s : State} {mode : Mode} (hmode : o.decodeClass.mode = some mode)
    (h : o.operandBytes <+: [s.mem.read s.pc1, s.mem.read (s.pc1 + 1)]) :
    resolve mode s.pc1 s.x s.y s.mem = effectiveAddress o s := by
  cases o with
  | lda src | and src | adc src =>
    obtain rfl := Option.some.inj hmode
    cases src with
    | immediate v => rfl
    | memory m => exact resolve_memOperand h
  | sta dst | stx dst | sty dst | asl dst =>
    obtain rfl := Option.some.inj hmode
    exact resolve_memOperand h
  | aslA | tax | tay | inx | iny | branch _ _ | brk =>
    obtain rfl := Option.some.inj hmode
    rfl
  | unimplemented _ | illegal => cases hmode

/-- Settles O27, from the operand bytes fetched. -/
theorem instructionOperandsAgreeWithTheResolver : Obligations.InstructionOperandsAgreeWithTheResolver :=
  fun s _ hmode => resolve_eq_effectiveAddress hmode (fetch_operandBytes_isPrefix s)

/-- Settles O28: LDA, AND and ADC have the operand bytes of their source. -/
theorem operandReadsTheByteAtItsAddress : Obligations.OperandReadsTheByteAtItsAddress := by
  intro s src hop
  have hbytes : (fetch s).operation.operandBytes = src.bytes := by
    rcases hop with h | h | h <;> exact congrArg Operation.operandBytes h
  exact sourceValue_eq_read_resolve (hbytes ▸ fetch_operandBytes_isPrefix s)

end Sys2Proof.Machine
end

section
/-! PROOF. The bus accesses of a step (40_execution_cycle.md R114): their writes make the next memory, and a step that stops has
the opcode read alone. -/

namespace Sys2Proof.Machine

/-- The accesses of a Running core's step. -/
theorem stepAccesses_running {s : State} (h : s.runState = .running) : stepAccesses s = instrAccesses (fetch s) s := by
  simp [stepAccesses, h]

/-- A step in a terminal state makes no access (R116). -/
theorem stepAccesses_terminal {s : State} (h : s.runState ≠ .running) : stepAccesses s = [] := by
  cases hr : s.runState <;> simp_all [stepAccesses]

/-- Reads leave memory as it is (R61). -/
theorem foldl_apply_of_reads {l : List BusAccess} (h : ∀ b ∈ l, ∃ a, b = .read a) (m : Memory) :
    l.foldl BusAccess.apply m = m := by
  induction l with
  | nil => rfl
  | cons b l ih =>
    obtain ⟨a, rfl⟩ := h b List.mem_cons_self
    exact ih fun b' hb' => h b' (List.mem_cons_of_mem _ hb')

/-- The accesses to operand bytes are reads. -/
@[simp] theorem foldl_apply_operandAccesses (len : Nat) (s : State) (m : Memory) :
    (operandAccesses len s).foldl BusAccess.apply m = m := by
  refine foldl_apply_of_reads (fun b hb => ?_) m
  obtain ⟨k, -, rfl⟩ := List.mem_map.mp hb
  exact ⟨_, rfl⟩

/-- The accesses to a pointer are reads. -/
@[simp] theorem foldl_apply_pointerAccesses (o : MemOperand) (s : State) (m : Memory) :
    (pointerAccesses o s).foldl BusAccess.apply m = m := by cases o <;> rfl

/-- As many accesses to operand bytes as there are of them. -/
@[simp] theorem length_operandAccesses (len : Nat) (s : State) : (operandAccesses len s).length = len := by
  simp [operandAccesses]

/-- A pointer has two bytes. -/
theorem length_pointerAccesses_le (o : MemOperand) (s : State) : (pointerAccesses o s).length ≤ 2 := by
  cases o <;> simp [pointerAccesses, zpPointerAccesses]

/-- The accesses of a source operand are reads. -/
@[simp] theorem foldl_apply_sourceAccesses (src : Source) (s : State) (m : Memory) :
    (sourceAccesses src s).foldl BusAccess.apply m = m := by
  cases src with
  | immediate v => rfl
  | memory o => simp [sourceAccesses, BusAccess.apply]

/-- The accesses of a store write its byte (R59). -/
@[simp] theorem foldl_apply_storeAccesses (o : MemOperand) (v : Byte) (s : State) (m : Memory) :
    (storeAccesses o v s).foldl BusAccess.apply m = m.write (ea o s) v := by
  simp [storeAccesses, BusAccess.apply]

/-- The data accesses of an operation make the memory it answers (R59, R61). -/
theorem foldl_apply_dataAccesses (o : Operation) (s : State) :
    (dataAccesses o s).foldl BusAccess.apply s.mem = (performed o s).mem := by
  cases o with
  | lda src | and src | adc src => exact foldl_apply_sourceAccesses src s s.mem
  | sta dst | stx dst | sty dst => exact foldl_apply_storeAccesses dst _ s s.mem
  | asl dst => simp [dataAccesses, performed, BusAccess.apply]
  | branch c d => exact (performed_branch_keeps (·.mem) (fun _ _ => rfl) c d s).symm
  | _ => rfl

/-- An operation makes at most four data accesses: a pointer's two bytes, a read and a write. -/
theorem length_dataAccesses_le (o : Operation) (s : State) : (dataAccesses o s).length ≤ 4 := by
  cases o with
  | lda src | and src | adc src =>
    cases src with
    | immediate v => simp [dataAccesses, sourceAccesses]
    | memory m =>
      have hptr := length_pointerAccesses_le m s
      simp only [dataAccesses, sourceAccesses, List.length_append, List.length_cons, List.length_nil]
      omega
  | sta dst | stx dst | sty dst | asl dst =>
    have hptr := length_pointerAccesses_le dst s
    simp only [dataAccesses, storeAccesses, List.length_append, List.length_cons, List.length_nil]
    omega
  | _ => simp [dataAccesses]

/-- A mode has at most two operand bytes (R82). -/
theorem operandLength_mode_le (m : Mode) : m.operandLength ≤ 2 := by cases m <;> decide

/-- An operation has at most two operand bytes: those of its mode, or none (R82, R89). -/
theorem operandLength_operation_le (o : Operation) : o.decodeClass.operandLength ≤ 2 := by
  cases o with
  | lda src | and src | adc src => exact operandLength_mode_le src.mode
  | sta dst | stx dst | sty dst | asl dst => exact operandLength_mode_le dst.mode
  | branch _ _ => exact one_le_two
  | _ => exact Nat.zero_le 2

/-- Settles O46: the opcode and operand accesses are reads, and the data accesses make the operation's memory. -/
theorem busWritesMakeTheNextMemory : Obligations.BusWritesMakeTheNextMemory := by
  intro s t hstep
  rcases step_next_cases hstep with ⟨hrun, rfl⟩ | ⟨hterm, rfl⟩
  · rw [stepAccesses_running hrun]
    refine ⟨?_, ?_, fun _ => rfl⟩
    · simp [instrAccesses, BusAccess.apply, foldl_apply_dataAccesses]
    · have hlen : (fetch s).operandLength ≤ 2 := operandLength_operation_le _
      have hdata := length_dataAccesses_le (fetch s).operation s
      simp only [instrAccesses, List.length_cons, List.length_append, length_operandAccesses]
      omega
  · rw [stepAccesses_terminal hterm]
    exact ⟨rfl, Nat.zero_le 7, fun hrun => absurd hrun hterm⟩

/-- An operation that ends the run has no operand bytes and no data accesses (R114, R229). -/
theorem accesses_of_endsTheRun {o : Operation} (s : State) (h : Claims.endsTheRun o = true) :
    operandAccesses o.decodeClass.operandLength s ++ dataAccesses o s = [] := by
  cases o with
  | brk | unimplemented _ | illegal => rfl
  | _ => cases h

/-- Settles O47: only an operation that ends the run leaves Running. -/
theorem stoppingStepsReadTheOpcodeOnly : Obligations.StoppingStepsReadTheOpcodeOnly := by
  intro s t hstep
  refine ⟨fun hrun hstop => ?_, fun hrun => ?_, stepAccesses_terminal⟩
  · rw [step_running hrun, exec_next_iff] at hstep
    have hends : Claims.endsTheRun (fetch s).operation = true := by
      by_contra hgoes
      exact hstop (hstep ▸ (performed_runState s (Bool.eq_false_of_not_eq_true hgoes)).trans hrun)
    rw [stepAccesses_running hrun]
    exact congrArg (BusAccess.read s.pc :: ·) (accesses_of_endsTheRun s hends)
  · simp only [stepAccesses_running hrun, instrAccesses, List.length_cons, List.length_append, length_operandAccesses]
    omega

end Sys2Proof.Machine
end

section
/-! PROOF. Loads, stores and transfers (41_load_store_transfer.md R150 to R157). -/

namespace Sys2Proof.Machine

/-- Past an instruction with no operand the PC is pc0 + 1 (R119, R131). -/
theorem advancePast_implied (s : State) : advancePast .implied s = s.setPc (s.pc + 1) :=
  congrArg s.setPc (BitVec.add_zero (s.pc + 1))

/-- Z and N of a result, bit by bit (R29, R30, R171). -/
theorem Flags.setZN_eq (p : Flags) (r : Byte) : p.setZN r = { p with z := decide (r = 0), n := r.getLsbD 7 } := rfl

/-- STA, STX and STY are one operation, on the register each of them stores (R151 to R154). -/
theorem performed_store {o : Operation} {dst : MemOperand} {v : Byte} {s : State}
    (h : o = .sta dst ∧ v = s.a ∨ o = .stx dst ∧ v = s.x ∨ o = .sty dst ∧ v = s.y) :
    performed o s = (s.store (ea dst s) v).advance o.decodeClass.operandLength := by
  rcases h with ⟨rfl, rfl⟩ | ⟨rfl, rfl⟩ | ⟨rfl, rfl⟩ <;> rfl

/-- Settles O18: a store is one byte write and the advance of the PC, which are read off field by field. -/
theorem storesWriteOneByteAtTheEffectiveAddress : Obligations.StoresWriteOneByteAtTheEffectiveAddress := by
  intro i dst v s hwf h
  obtain ⟨hread, hother⟩ := byteWriteSetsOneCell s.mem (ea dst s) v hwf
  exact ⟨_, (exec_eq i s).trans (congrArg _ (performed_store h)), hread, hother, rfl, rfl, rfl, rfl, rfl, rfl, rfl⟩

/-- Settles O13: `performed` says what LDA writes, and the operand length is that of the source's mode. -/
theorem ldaLoadsTheAccumulator : Obligations.LdaLoadsTheAccumulator := by
  intro i src s h
  have hlen : i.operandLength = src.mode.operandLength := congrArg (·.decodeClass.operandLength) h
  rw [exec_eq, h, hlen, ← Flags.setZN_eq]
  rfl

/-- Settles O19: `performed` says what each transfer writes, and neither has an operand to pass. -/
theorem transfersCopyTheAccumulator : Obligations.TransfersCopyTheAccumulator := by
  intro s
  rw [← Flags.setZN_eq]
  exact ⟨(exec_eq .tax s).trans (congrArg _ (advancePast_implied _)),
    (exec_eq .tay s).trans (congrArg _ (advancePast_implied _))⟩

end Sys2Proof.Machine
end

section
/-! PROOF. The ALU's functions on numbers (42_alu.md R170, R180 to R182). -/

namespace Sys2Proof.Machine

/-- Bit 7 is the one for 128. -/
theorem getLsbD_seven_eq (r : Byte) : r.getLsbD 7 = decide (128 ≤ r.toNat) :=
  (BitVec.msb_eq_getLsbD_last r).symm.trans (BitVec.msb_eq_decide r)

/-- N says that bit 7 is left by the mask 0x80 (R171). -/
theorem isNegative_eq_mask (r : Byte) : isNegative r = decide (r &&& 0x80 ≠ 0) := by
  have hmask : r &&& 0x80 = if r.getLsbD 7 then 0x80 else 0 := BitVec.and_twoPow r 7
  rw [hmask, isNegative]
  cases r.getLsbD 7 <;> rfl

/-- Z, on the number (R170). -/
theorem isZero_eq (r : Byte) : isZero r = decide (r.toNat = 0) :=
  decide_eq_decide.mpr (BitVec.toNat_inj (y := 0)).symm

/-- N, on the number (R170). -/
theorem isNegative_eq (r : Byte) : isNegative r = decide (128 ≤ r.toNat) := getLsbD_seven_eq r

/-- `inc8`, on numbers (R170). -/
theorem inc8_toNat (v : Byte) : (inc8 v).toNat = (v.toNat + 1) % 256 := BitVec.toNat_add v 1

/-- The result of `inc8`, from its number (R170). -/
theorem inc8_eq (v : Byte) : inc8 v = BitVec.ofNat 8 ((v.toNat + 1) % 256) := by
  rw [← inc8_toNat, BitVec.ofNat_toNat, BitVec.setWidth_eq]

/-- The carry out of a shift, on the number (R170). -/
theorem shl8Carry_eq (v : Byte) : shl8Carry v = decide (128 ≤ v.toNat) := getLsbD_seven_eq v

/-- Nine bits hold the sum of two bytes and a carry (R180). -/
theorem sum9_toNat (a m : Byte) (cin : Bool) : (sum9 a m cin).toNat = a.toNat + m.toNat + cin.toNat := by
  have hcin : (carryIn cin).toNat = cin.toNat := by cases cin <;> rfl
  have hcin1 : cin.toNat ≤ 1 := cin.toNat_le
  have ha := a.isLt
  have hm := m.isLt
  simp only [sum9, BitVec.toNat_add, BitVec.toNat_setWidth, hcin]
  omega

/-- The result of `adc8` (R180). -/
theorem adc8_eq (a m : Byte) (cin : Bool) : adc8 a m cin = BitVec.ofNat 8 (a.toNat + m.toNat + cin.toNat) := by
  rw [← sum9_toNat, BitVec.ofNat_toNat, adc8]

/-- The carry out of `adc8` (R181). -/
theorem adc8Carry_eq (a m : Byte) (cin : Bool) :
    adc8Carry a m cin = decide (256 ≤ a.toNat + m.toNat + cin.toNat) := by
  rw [← sum9_toNat]
  exact (BitVec.msb_eq_getLsbD_last _).symm.trans (BitVec.msb_eq_decide _)

/-- V, as R180 has it. -/
theorem adc8Overflow_eq (a m : Byte) (cin : Bool) :
    adc8Overflow a m cin = decide (a.getLsbD 7 = m.getLsbD 7 ∧ (adc8 a m cin).getLsbD 7 ≠ a.getLsbD 7) := by
  simp [adc8Overflow, Bool.beq_eq_decide_eq, bne]

/-- Settles O30, function by function. -/
theorem aluFunctionsOnNumbers : Obligations.AluFunctionsOnNumbers := by
  intro a m cin
  refine ⟨inc8_toNat a, fun _ => BitVec.getLsbD_and, ?_, shl8Carry_eq a, ?_, adc8Carry_eq a m cin, isZero_eq a,
    isNegative_eq a⟩
  · rw [shl8_eq, BitVec.toNat_ofNat]
  · rw [adc8_eq, BitVec.toNat_ofNat]

/-- V says that the two's-complement sum is out of range: the numbers of the three bytes give their sign bits, and of two
bytes of one sign the sum is out of range when bit 7 of it flips (R182). -/
theorem adc8Overflow_iff (a m : Byte) (cin : Bool) :
    adc8Overflow a m cin = true ↔
      a.toInt + m.toInt + cin.toNat < -128 ∨ 127 < a.toInt + m.toInt + cin.toNat := by
  have hcin : cin.toNat ≤ 1 := cin.toNat_le
  have ha := a.isLt
  have hm := m.isLt
  simp only [adc8Overflow_eq, adc8_eq, getLsbD_seven_eq, BitVec.toNat_ofNat, BitVec.toInt_eq_toNat_cond,
    decide_eq_true_eq, decide_eq_decide, ne_eq]
  omega

/-- V, as the bit formula of R182. -/
theorem adc8Overflow_eq_xor (a m : Byte) (cin : Bool) :
    adc8Overflow a m cin = ((a ^^^ adc8 a m cin) &&& (m ^^^ adc8 a m cin)).getLsbD 7 := by
  have hsigns : ∀ sa sm sr : Bool, (sa == sm && sr != sa) = ((sa ^^ sr) && (sm ^^ sr)) := by decide
  rw [BitVec.getLsbD_and, BitVec.getLsbD_xor, BitVec.getLsbD_xor]
  exact hsigns _ _ _

/-- Settles O31: the signed reading of V, and its bit formula. -/
theorem overflowIsSignedOverflow : Obligations.OverflowIsSignedOverflow := fun a m cin =>
  ⟨adc8Overflow_iff a m cin, adc8Overflow_eq_xor a m cin⟩

end Sys2Proof.Machine
end

section
/-! PROOF. The instructions that use the ALU: INX, INY, AND, ASL and ADC (42_alu.md R172 to R186), and the Zero/Negative law
of every instruction that recomputes the two flags (R171). -/

namespace Sys2Proof.Machine

/-- The flags an increment leaves, on the old value (R172, R173). -/
theorem Flags.setZN_inc8 (p : Flags) (v : Byte) :
    p.setZN (inc8 v) = { p with z := decide (v.toNat = 255), n := decide (127 ≤ v.toNat ∧ v.toNat < 255) } := by
  have hz : isZero (inc8 v) = decide (v.toNat = 255) := by
    rw [isZero_eq, inc8_toNat, decide_eq_decide]
    omega
  have hn : isNegative (inc8 v) = decide (127 ≤ v.toNat ∧ v.toNat < 255) := by
    rw [isNegative_eq, inc8_toNat, decide_eq_decide]
    omega
  rw [setZN, hz, hn]

/-- Settles O20: `performed` says what each increment writes, and neither has an operand to pass. -/
theorem incrementsWrapModulo256 : Obligations.IncrementsWrapModulo256 := by
  intro s
  simp only [← Flags.setZN_inc8, ← inc8_eq]
  exact ⟨(exec_eq .inx s).trans (congrArg _ (advancePast_implied _)),
    (exec_eq .iny s).trans (congrArg _ (advancePast_implied _))⟩

/-- An instruction has as many operand bytes as its operation (R82, R89). -/
theorem operandLength_of_operation {i : Instr} {o : Operation} (h : i.operation = o) :
    i.operandLength = o.decodeClass.operandLength := congrArg (·.decodeClass.operandLength) h

/-- Settles O14: `performed` says what AND writes, and the operand length is that of the source's mode. -/
theorem andMasksTheAccumulator : Obligations.AndMasksTheAccumulator := by
  intro i src s h
  rw [exec_eq, h, operandLength_of_operation h, ← Flags.setZN_eq]
  rfl

/-- The flags ASL leaves, on numbers (R175 to R177). -/
theorem Flags.afterShift_eq (p : Flags) (v : Byte) :
    p.afterShift v = { p with
      c := decide (128 ≤ v.toNat)
      z := decide (shl8 v = 0), n := (shl8 v).getLsbD 7 } := by
  rw [← shl8Carry_eq]
  rfl

/-- Past the accumulator form, which has no operand bytes, the PC is pc0 + 1 (R119, R131). -/
theorem advancePast_accumulator (s : State) : advancePast .accumulator s = s.setPc (s.pc + 1) := advancePast_implied s

/-- Settles O16: `performed` says what ASL A writes, and it has no operand to pass. -/
theorem aslShiftsTheAccumulator : Obligations.AslShiftsTheAccumulator := by
  intro s r
  have hr : r = shl8 s.a := (shl8_eq s.a).symm
  rw [hr, ← Flags.afterShift_eq]
  exact (exec_eq .aslAccumulator s).trans (congrArg _ (advancePast_accumulator _))

/-- Settles O17: the doubled byte is one byte write, and the rest is read off field by field. -/
theorem aslShiftsAMemoryByte : Obligations.AslShiftsAMemoryByte := by
  intro i dst s h hwf v r
  have hr : r = shl8 v := (shl8_eq v).symm
  obtain ⟨hread, hother⟩ := byteWriteSetsOneCell s.mem (ea dst s) (shl8 v) hwf
  refine ⟨_, exec_eq i s, ?_⟩
  rw [h, operandLength_of_operation h, hr]
  exact ⟨hread, hother, s.p.afterShift_eq v, rfl, rfl, rfl, rfl, rfl, rfl⟩

/-- The flags ADC leaves, on numbers (R180, R181). -/
theorem Flags.afterAdd_eq (p : Flags) (a m : Byte) :
    p.afterAdd a m = { p with
      c := decide (256 ≤ a.toNat + m.toNat + p.c.toNat)
      v := decide (a.getLsbD 7 = m.getLsbD 7 ∧ (adc8 a m p.c).getLsbD 7 ≠ a.getLsbD 7)
      z := decide (adc8 a m p.c = 0), n := (adc8 a m p.c).getLsbD 7 } := by
  rw [← adc8Carry_eq, ← adc8Overflow_eq]
  rfl

/-- Settles O15: `performed` says what ADC writes, and the operand length is that of the source's mode. -/
theorem adcAddsWithCarry : Obligations.AdcAddsWithCarry := by
  intro i src s h sum r
  have hr : r = adc8 s.a (sourceValue src s) s.p.c := (adc8_eq _ _ _).symm
  rw [exec_eq, h, operandLength_of_operation h, hr, ← Flags.afterAdd_eq]
  rfl

/-- The byte an operation has written to its destination is the byte Z and N are of (R171). -/
theorem performed_zn_of_writtenByte {o : Operation} {s : State} {b : Byte} (hwf : s.mem.wf)
    (h : Claims.writtenByte o s (performed o s) = some b) :
    (performed o s).p.z = isZero b ∧ (performed o s).p.n = isNegative b := by
  cases o with
  | lda _ | and _ | adc _ | aslA | tax | tay | inx | iny =>
    cases h
    exact ⟨rfl, rfl⟩
  | asl dst =>
    obtain ⟨hread, -⟩ := byteWriteSetsOneCell s.mem (ea dst s) (shl8 (loadByte dst s)) hwf
    obtain rfl : shl8 (loadByte dst s) = b := hread.symm.trans (Option.some.inj h)
    exact ⟨rfl, rfl⟩
  | sta _ | stx _ | sty _ | branch _ _ | brk | unimplemented _ | illegal => cases h

/-- Settles O29: Z and N are computed of the byte written, and N is its bit 7. -/
theorem zeroNegativeLaw : Obligations.ZeroNegativeLaw := by
  intro i s t b hwf hexec hb
  obtain rfl := exec_next_iff.mp hexec
  rw [← isNegative_eq_mask]
  exact performed_zn_of_writtenByte hwf hb

end Sys2Proof.Machine
end

section
/-! PROOF. Control flow (43_control_flow.md R200 to R210): where a branch, a halt and every other instruction leave the PC. -/

namespace Sys2Proof.Machine

/-- A taken branch counts from the address after its operand byte (R201). -/
theorem State.branchTo_eq (s : State) (d : Int) : s.branchTo d = s.setPc (s.pc + 2 + BitVec.ofInt 16 d) := by
  have hpc : s.pc + 1 + sext16 d + 1 = s.pc + 2 + sext16 d := by bv_omega
  exact congrArg s.setPc hpc

/-- Past an instruction with one operand byte, as a branch not taken is, the PC is pc0 + 2 (R119, R132). -/
theorem advancePast_relative (s : State) : advancePast .relative s = s.setPc (s.pc + 2) :=
  congrArg s.setPc (BitVec.add_assoc s.pc 1 1)

/-- A branch writes the PC that its condition selects, and nothing else (R201). -/
theorem performed_branch (c : Condition) (d : Int) (s : State) :
    performed (.branch c d) s =
      s.setPc (if conditionHolds s.p c then s.pc + 2 + BitVec.ofInt 16 d else s.pc + 2) := by
  rw [apply_ite s.setPc, ← State.branchTo_eq, ← advancePast_relative]
  rfl

/-- The two targets of a branch as one number modulo 65536: a branch not taken adds no displacement (R201). -/
theorem branchSelect_eq (pc0 : Address) (d : Int) (taken : Bool) :
    (if taken then pc0 + 2 + BitVec.ofInt 16 d else pc0 + 2) =
      BitVec.ofInt 16 (pc0.toNat + 2 + if taken then d else 0) := by
  rw [branchTarget_eq]
  cases taken with
  | true => rfl
  | false => exact (BitVec.add_zero _).symm

/-- What each of the eight branch instructions answers (R201 to R209). -/
theorem exec_branch {i : Instr} {c : Condition} {d : Int} (h : i.operation = .branch c d) (s : State) :
    exec i s =
      .next { s with pc := BitVec.ofInt 16 (s.pc.toNat + 2 + if conditionHolds s.p c then d else 0) } := by
  rw [exec_eq, h, performed_branch, branchSelect_eq]
  rfl

/-- Settles O21: each branch asks for its own condition, and `exec_branch` says where it goes. -/
theorem branchesMoveThePcOnTheirFlag : Obligations.BranchesMoveThePcOnTheirFlag := fun s _ _ _ =>
  ⟨exec_branch (c := .cc) rfl s, exec_branch (c := .cs) rfl s, exec_branch (c := .ne) rfl s, exec_branch (c := .eq) rfl s,
    exec_branch (c := .pl) rfl s, exec_branch (c := .mi) rfl s, exec_branch (c := .vc) rfl s, exec_branch (c := .vs) rfl s⟩

/-- Settles O12: a branch selects its PC, BRK and the faults stop past the opcode, and the rest advance by their length. -/
theorem nextPcMultiplexer : Obligations.NextPcMultiplexer := by
  intro s t hrun hstep
  rw [step_running hrun, exec_next_iff] at hstep
  rw [hstep]
  cases h : (fetch s).operation with
  | branch c d => exact congrArg State.pc (performed_branch c d s)
  | brk | unimplemented _ | illegal => rfl
  | _ =>
    rw [operandLength_of_operation h]
    rfl

/-- Settles O22: `performed` says that BRK is the halt of R210. -/
theorem brkHalts : Obligations.BrkHalts := exec_eq .brk

end Sys2Proof.Machine
end

section
/-! PROOF. The faults (60_exceptions.md R220 to R229): the two classes that enter Faulted with the whole next state, and that no
admitted instruction does. -/

namespace Sys2Proof.Machine

/-- BRK's class ends in Halted and the other admitted ones in Running: none in Faulted (R224). -/
theorem endRunState_admitted_ne_faulted (k : Kind) (m : Mode) (len : Nat) (r : FaultReason) :
    endRunState (.admitted k m len) ≠ .faulted r := by
  by_cases hk : k = .brk <;> simp [endRunState, hk]

/-- Settles O11: the state answered is in the run state of the instruction's class. -/
theorem admittedInstructionsRaiseNothing : Obligations.AdmittedInstructionsRaiseNothing := by
  intro i k m len s hclass hrun
  refine ⟨performed i.operation s, exec_eq i s, fun r => ?_⟩
  have hend : (performed i.operation s).runState = endRunState (.admitted k m len) :=
    (performed_endRunState i.operation hrun).trans (congrArg endRunState hclass)
  rw [hend]
  exact endRunState_admitted_ne_faulted k m len r

/-- The class of an unimplemented mnemonic is that of its own operation only (R86). -/
theorem operation_eq_unimplemented {o : Operation} {m : Unsupported} (h : o.decodeClass = .unimplemented m) :
    o = .unimplemented m := by
  cases o with
  | unimplemented _ => exact congrArg Operation.unimplemented (DecodeClass.unimplemented.inj h)
  | _ => cases h

/-- The illegal class is that of the illegal operation only (R87). -/
theorem operation_eq_illegal {o : Operation} (h : o.decodeClass = .illegal) : o = .illegal := by
  cases o with
  | illegal => rfl
  | _ => cases h

/-- Settles O23: the class gives the operation, and `performed` says that it raises Unimplemented. -/
theorem unimplementedOpcodesFault : Obligations.UnimplementedOpcodesFault := by
  intro i m s hclass
  rw [exec_eq, operation_eq_unimplemented hclass]
  rfl

/-- Settles O24: the class gives the operation, and `performed` says that it raises InvalidInstruction. -/
theorem illegalOpcodesFault : Obligations.IllegalOpcodesFault := by
  intro i s hclass
  rw [exec_eq, operation_eq_illegal hclass]
  rfl

end Sys2Proof.Machine
end

section
/-! PROOF. A stopped state shows the byte that stopped it at PC - 1 (60_exceptions.md R221, 70_reset_and_hazards.md R263): every
step keeps this, and so does every run from a Running state. -/

namespace Sys2Proof.Machine

/-- The operations that end a run write no memory and leave the PC one past the opcode byte (R112, R210, R229). -/
theorem performed_of_endsTheRun {o : Operation} (s : State) (h : Claims.endsTheRun o = true) :
    (performed o s).pc = s.pc + 1 ∧ (performed o s).mem = s.mem := by
  cases o with
  | brk | unimplemented _ | illegal => exact ⟨rfl, rfl⟩
  | _ => cases h

/-- A step that stops a Running core leaves the opcode byte to be recovered at PC - 1 (R221). -/
theorem stoppedAt_of_step {s t : State} (hrun : s.runState = .running) (hstep : step s = .next t)
    (hstop : t.runState ≠ .running) : stoppedAt t = s.mem.read s.pc := by
  rw [step_running hrun, exec_next_iff] at hstep
  have hends : Claims.endsTheRun (fetch s).operation = true := by
    by_contra hnot
    exact hstop (by rw [hstep, performed_runState s (Bool.eq_false_of_not_eq_true hnot), hrun])
  obtain ⟨hpc, hmem⟩ := performed_of_endsTheRun s hends
  rw [stoppedAt, hstep, hpc, hmem, BitVec.add_sub_cancel]

/-- A Running state has nothing to show. -/
theorem showsItsOpcode_of_running {s : State} (h : s.runState = .running) : Claims.showsItsOpcode s := by
  simp [Claims.showsItsOpcode, h]

/-- Settles O56: the byte shown is the opcode byte, whose class decides the run state (O10); a terminal state stays as it is. -/
theorem stepKeepsTheStoppingByteShown : Obligations.StepKeepsTheStoppingByteShown := by
  intro s t hshown hstep
  by_cases hrun : s.runState = .running
  · obtain ⟨hhalted, hunimplemented, hinvalid, -⟩ := opcodeByteDecidesTheRunState s t hrun hstep
    have hbyte := stoppedAt_of_step hrun hstep
    refine ⟨fun h => ?_, fun h => ?_, fun h => ?_⟩ <;> rw [hbyte (by simp [h])]
    · exact hhalted.mp h
    · exact hunimplemented.mp h
    · exact hinvalid.mp h
  · obtain rfl := Host.Outcome.next.inj ((step_terminal hrun).symm.trans hstep)
    exact hshown

/-- Settles O57: both are Running. -/
theorem resetStartsTheStoppingByteInvariant : Obligations.ResetStartsTheStoppingByteInvariant :=
  ⟨showsItsOpcode_of_running rfl, fun _ => showsItsOpcode_of_running rfl⟩

/-- What every step keeps, every run keeps. -/
theorem run_keeps {P : State → Prop} (hstep : ∀ s t, P s → step s = .next t → P t) (n : Nat) {s t : State} (hs : P s)
    (hrun : run n s = .next t) : P t := by
  induction n generalizing s with
  | zero =>
    obtain rfl := Host.Outcome.next.inj hrun
    exact hs
  | succ n ih =>
    obtain ⟨u, hu⟩ := stepAlwaysAnswersANextState s
    rw [run_succ_of_step hu] at hrun
    exact ih (hstep s u hs hu) hrun

/-- Settles O51: a Running state shows nothing, and every step of the run keeps what is shown (O56). -/
theorem stoppedRunShowsItsOpcode : Obligations.StoppedRunShowsItsOpcode := fun n _ _ hrunning =>
  run_keeps stepKeepsTheStoppingByteShown n (showsItsOpcode_of_running hrunning)

end Sys2Proof.Machine
end

section
/-! PROOF. Reset and boot (70_reset_and_hazards.md R250 to R255): a boot is the reset of a memory, and what each order of the two
host writes leaves to be read in it. -/

namespace Sys2Proof.Machine

/-- The new core with a memory and the PC of its vector: what reset leaves on that memory. -/
def bootedOn (m : Memory) : State := { State.reset with pc := m.read16 Config.resetVector, mem := m }

/-- Reset keeps of a state its memory alone (R250, R251). -/
theorem State.hostReset_eq (s : State) : s.hostReset = bootedOn s.mem := rfl

/-- Settles O41: P is clear as a byte, and the vector word is read on numbers. -/
theorem resetZeroesTheRegistersAndLoadsTheVector : Obligations.ResetZeroesTheRegistersAndLoadsTheVector := by
  intro s
  have hclear : Flags.clear.toByte = 0x00 := by decide
  exact ⟨rfl, rfl, rfl, rfl, hclear, rfl, rfl, s.mem.read16_toNat Config.resetVector⟩

/-- Settles O42: zeroed memory has a zero vector, and the zero byte at address zero is BRK. -/
theorem newCoreHaltsAtAddressZero : Obligations.NewCoreHaltsAtAddressZero := by
  refine ⟨fun s hzeroed => ?_, rfl, ?_⟩
  · rw [s.hostReset_eq, hzeroed]
    rfl
  · have hfetch : fetch State.reset = .brk := rfl
    rw [step_running rfl, hfetch]
    exact brkHalts State.reset

/-- The byte at an address of a zeroed memory with the load address in the vector alone (R54, R57). -/
def vectorByte (loadAddr b : Address) : Byte :=
  if b = 0xFFFC then lowByte loadAddr else if b = 0xFFFD then highByte loadAddr else 0

/-- The bytes of the vector on numbers. -/
theorem vectorByte_toNat (loadAddr b : Address) :
    (vectorByte loadAddr b).toNat =
      if b = 0xFFFC then loadAddr.toNat % 256 else if b = 0xFFFD then loadAddr.toNat / 256 else 0 := by
  rw [vectorByte, apply_ite BitVec.toNat, apply_ite BitVec.toNat, lowByte_toNat, highByte_toNat]
  rfl

/-- Beside the vector there is a zero. -/
theorem vectorByte_beside (loadAddr : Address) {b : Address} (hb : ¬(b = 0xFFFC ∨ b = 0xFFFD)) : vectorByte loadAddr b = 0 := by
  obtain ⟨hlow, hhigh⟩ := not_or.mp hb
  rw [vectorByte, if_neg hlow, if_neg hhigh]

/-- Writing the load address to the vector sets its two bytes and keeps the others (R54). -/
theorem Memory.read_write16_resetVector {m : Memory} (h : m.wf) (loadAddr b : Address) :
    (m.write16 Config.resetVector loadAddr).read b =
      if b = 0xFFFC ∨ b = 0xFFFD then vectorByte loadAddr b else m.read b := by
  have hnext : Config.resetVector + 1 = 0xFFFD := rfl
  rw [read_write16 h, hnext, vectorByte, Config.resetVector]
  by_cases hb : b = 0xFFFC ∨ b = 0xFFFD
  · rcases hb with rfl | rfl <;> rfl
  · obtain ⟨hlow, hhigh⟩ := not_or.mp hb
    rw [if_neg hb, if_neg hhigh, if_neg hlow]

/-- Where the image has no byte there is a zero. -/
theorem imageByte_outside {loadAddr b : Address} {image : List Byte} (hb : ¬ Claims.imageCovers loadAddr image b) :
    Claims.imageByte loadAddr image b = 0 := if_neg hb

/-- Zeroed memory with the image alone (R57, R58). -/
def imageMemory (loadAddr : Address) (image : List Byte) : Memory := Memory.writeBytes [] loadAddr image

/-- The memory of `boot`: the load address is written to the vector after the image is copied. -/
def vectorLastMemory (loadAddr : Address) (image : List Byte) : Memory :=
  (imageMemory loadAddr image).write16 Config.resetVector loadAddr

/-- The memory of `bootVectorFirst`: the image is copied after the load address is written to the vector. -/
def imageLastMemory (loadAddr : Address) (image : List Byte) : Memory :=
  (Memory.write16 [] Config.resetVector loadAddr).writeBytes loadAddr image

/-- The image alone is in canonical form (R50). -/
theorem imageMemory_wf (loadAddr : Address) (image : List Byte) : (imageMemory loadAddr image).wf :=
  Memory.wf_writeBytes Memory.wf_nil _ _

/-- The memory of `boot` is in canonical form. -/
theorem vectorLastMemory_wf (loadAddr : Address) (image : List Byte) : (vectorLastMemory loadAddr image).wf :=
  Memory.wf_write16 (imageMemory_wf loadAddr image) _ _

/-- The memory of `bootVectorFirst` is in canonical form. -/
theorem imageLastMemory_wf (loadAddr : Address) (image : List Byte) : (imageLastMemory loadAddr image).wf :=
  Memory.wf_writeBytes (Memory.wf_write16 Memory.wf_nil _ _) _ _

/-- The vector written last reads as the load address (R55). -/
theorem read16_vectorLastMemory (loadAddr : Address) (image : List Byte) :
    (vectorLastMemory loadAddr image).read16 Config.resetVector = loadAddr :=
  Memory.read16_write16 (imageMemory_wf loadAddr image) _ _

section
variable {loadAddr : Address} {image : List Byte} (hfits : loadAddr.toNat + image.length ≤ 65536)
include hfits

/-- An image that fits is copied (R58). -/
theorem bulkCopy_of_fits (s : State) :
    bulkCopy loadAddr image s = .next (s.setMem (s.mem.writeBytes loadAddr image)) :=
  if_neg (Nat.not_lt.mpr hfits)

/-- What the boot in the order of R254 answers. -/
theorem boot_of_fits : boot loadAddr image = .next (bootedOn (vectorLastMemory loadAddr image)) := by
  rw [boot, bulkCopy_of_fits hfits]
  rfl

/-- What the boot with the vector written first answers. -/
theorem bootVectorFirst_of_fits : bootVectorFirst loadAddr image = .next (bootedOn (imageLastMemory loadAddr image)) := by
  rw [bootVectorFirst, bulkCopy_of_fits hfits]
  rfl

/-- What the boot without a write of the vector answers. -/
theorem bootOwnVector_of_fits : bootOwnVector loadAddr image = .next (bootedOn (imageMemory loadAddr image)) := by
  rw [bootOwnVector, bulkCopy_of_fits hfits]
  rfl

/-- A copied image reads as its own bytes where it covers, and the old memory shows elsewhere (R58). -/
theorem Memory.read_writeBytes_of_fits {m : Memory} (h : m.wf) (b : Address) :
    (m.writeBytes loadAddr image).read b =
      if Claims.imageCovers loadAddr image b then Claims.imageByte loadAddr image b else m.read b := by
  obtain ⟨t, hcopy, -, hread⟩ := (bulkCopyLoadsOrRefuses loadAddr image (State.reset.setMem m) h).2 hfits
  obtain rfl := Host.Outcome.next.inj ((bulkCopy_of_fits hfits _).symm.trans hcopy)
  refine (hread b).trans ?_
  by_cases hb : Claims.imageCovers loadAddr image b
  · rw [if_pos hb, if_pos hb, Claims.imageByte, if_pos hb]
  · rw [if_neg hb, if_neg hb, State.setMem_mem]

/-- Zeroed memory with the image alone reads as the image, and as 0 outside it. -/
theorem read_imageMemory (b : Address) : (imageMemory loadAddr image).read b = Claims.imageByte loadAddr image b := by
  rw [imageMemory, Memory.read_writeBytes_of_fits hfits Memory.wf_nil]
  split
  next => rfl
  next hb => exact (imageByte_outside hb).symm

/-- With the vector written last, its two bytes are the load address's, whatever the image. -/
theorem read_vectorLastMemory (b : Address) :
    (vectorLastMemory loadAddr image).read b =
      if b = 0xFFFC ∨ b = 0xFFFD then vectorByte loadAddr b else Claims.imageByte loadAddr image b := by
  rw [vectorLastMemory, Memory.read_write16_resetVector (imageMemory_wf loadAddr image), read_imageMemory hfits]

/-- With the image copied last, the bytes it covers are its own, and of the vector the others are the load address's. -/
theorem read_imageLastMemory (b : Address) :
    (imageLastMemory loadAddr image).read b =
      if Claims.imageCovers loadAddr image b then Claims.imageByte loadAddr image b else vectorByte loadAddr b := by
  rw [imageLastMemory, Memory.read_writeBytes_of_fits hfits (Memory.wf_write16 Memory.wf_nil _ _),
    Memory.read_write16_resetVector Memory.wf_nil]
  by_cases hb : b = 0xFFFC ∨ b = 0xFFFD
  · rw [if_pos hb]
  · rw [if_neg hb, vectorByte_beside loadAddr hb]
    rfl

/-- Beside the vector the two orders leave the same memory. -/
theorem imageLastMemory_eq_vectorLastMemory (hlow : ¬ Claims.imageCovers loadAddr image 0xFFFC)
    (hhigh : ¬ Claims.imageCovers loadAddr image 0xFFFD) :
    imageLastMemory loadAddr image = vectorLastMemory loadAddr image := by
  refine memoryIsDeterminedByItsReads _ _ (imageLastMemory_wf _ _) (vectorLastMemory_wf _ _) fun b => ?_
  rw [read_imageLastMemory hfits, read_vectorLastMemory hfits]
  by_cases hb : b = 0xFFFC ∨ b = 0xFFFD
  · have hout : ¬ Claims.imageCovers loadAddr image b := by rcases hb with rfl | rfl <;> assumption
    rw [if_neg hout, if_pos hb]
  · rw [if_neg hb, vectorByte_beside loadAddr hb]
    split
    next => rfl
    next hout => exact (imageByte_outside hout).symm

/-- An image over the whole vector, copied last, leaves nothing of the vector write. -/
theorem imageLastMemory_eq_imageMemory (hlow : Claims.imageCovers loadAddr image 0xFFFC)
    (hhigh : Claims.imageCovers loadAddr image 0xFFFD) :
    imageLastMemory loadAddr image = imageMemory loadAddr image := by
  refine memoryIsDeterminedByItsReads _ _ (imageLastMemory_wf _ _) (imageMemory_wf _ _) fun b => ?_
  rw [read_imageLastMemory hfits, read_imageMemory hfits]
  split
  next => rfl
  next hout =>
    have hb : ¬(b = 0xFFFC ∨ b = 0xFFFD) := by rintro (rfl | rfl) <;> contradiction
    rw [vectorByte_beside loadAddr hb, imageByte_outside hout]

end

/-- Settles O43: the PC is the vector written last, whatever the image covers, and beside the vector the image is read. -/
theorem bootStartsTheImage : Obligations.BootStartsTheImage := by
  intro loadAddr image hfits _ _
  have hvector := read16_vectorLastMemory loadAddr image
  refine ⟨_, boot_of_fits hfits, hvector, rfl, rfl, rfl, rfl, rfl, rfl, hvector, fun b hlow hhigh => ?_⟩
  exact (read_vectorLastMemory hfits b).trans (if_neg (not_or.mpr ⟨hlow, hhigh⟩))

/-- Settles O54: the vector is read from the image, as every byte is. -/
theorem bootFollowsTheImagesOwnVector : Obligations.BootFollowsTheImagesOwnVector := by
  intro loadAddr image hfits
  refine ⟨_, bootOwnVector_of_fits hfits, ?_, rfl, rfl, rfl, rfl, rfl, rfl, read_imageMemory hfits⟩
  rw [← read_imageMemory hfits, ← read_imageMemory hfits]
  exact Memory.read16_toNat _ Config.resetVector

/-- Settles O55: the boots compared start from the same memory. -/
theorem bootOrderIsFreeBesideTheVector : Obligations.BootOrderIsFreeBesideTheVector := by
  intro loadAddr image hfits
  rw [bootVectorFirst_of_fits hfits, boot_of_fits hfits, bootOwnVector_of_fits hfits]
  exact ⟨fun hlow hhigh => by rw [imageLastMemory_eq_vectorLastMemory hfits hlow hhigh],
    fun hlow hhigh => by rw [imageLastMemory_eq_imageMemory hfits hlow hhigh]⟩

/-- Settles O58: each order's memory on numbers, and the PC read from its vector. -/
theorem bootVectorUnderEitherOrder : Obligations.BootVectorUnderEitherOrder := by
  intro loadAddr image hfits byteOfVector vectorLast imageLast
  have hvectorLast : ∀ b, ((vectorLastMemory loadAddr image).read b).toNat = vectorLast b := fun b => by
    rw [read_vectorLastMemory hfits, apply_ite BitVec.toNat, vectorByte_toNat]
  have himageLast : ∀ b, ((imageLastMemory loadAddr image).read b).toNat = imageLast b := fun b => by
    rw [read_imageLastMemory hfits, apply_ite BitVec.toNat, vectorByte_toNat]
  refine ⟨_, _, boot_of_fits hfits, bootVectorFirst_of_fits hfits, hvectorLast, read16_vectorLastMemory loadAddr image,
    himageLast, ?_, rfl, rfl⟩
  rw [← himageLast, ← himageLast]
  exact Memory.read16_toNat _ Config.resetVector

end Sys2Proof.Machine
end
